-- ==== Sys2Proof/Word.lean ====
section
/-! DEFINITION. The words the VR1612 works in: octets, and the numbers of lines and peers. -/

namespace Sys2Proof

/-- One octet of the line, of the bus or of the configuration memory. -/
abbrev Octet := BitVec 8

/-- A tributary line, 0..15 (00, Fixed numbers). -/
abbrev LineNo := Fin 16

/-- A position of the peer table, 0..11 (R139). -/
abbrev PeerNo := Fin 12

end Sys2Proof
end

