-- ==== Sys2Proof/Syntax.lean ====
section
/-! DEFINITION. The commands of the VR1612: one constructor for each row of spec/opcode_table.json. -/

namespace Sys2Proof

/-- The commands. Each stands for one whole step of the part, and its operands are what the step takes from outside.
A line's bits and octets are given in order of arrival. A bit time of the bus is given as its two half levels. -/
inductive Instr where
  /-- POWER_ON (R170). -/
  | powerOn
  /-- RESET_PIN_ASSERTION (R170, R172). -/
  | resetPinAssertion
  /-- RESET_PIN_RELEASE (R171): `straps` is what the four strap pins read. -/
  | resetPinRelease (straps : BitVec 4)
  /-- HAND_OVER_INTO_START (R176): `octets` are the image octets clocked in since those the buffer holds. -/
  | handOverIntoStart (octets : List Octet)
  /-- EDGE_WATCH_EXPIRY (R2). -/
  | edgeWatchExpiry (line : LineNo)
  /-- FIRST_CLOCK_EDGE (R3): `bit` is the bit clocked by the edge. -/
  | firstClockEdge (line : LineNo) (bit : Bool)
  /-- SEARCH_TIMER_EXPIRY (R8): `bits` are the bits received up to the expiry. -/
  | searchTimerExpiry (line : LineNo) (bits : List Bool)
  /-- CANDIDATE_TAKEN (R4): `bits` are the bits received in SEARCH. -/
  | candidateTaken (line : LineNo) (bits : List Bool)
  /-- CANDIDATE_SERVICE_OCTET (R4): `bits` are the bits received after the candidate was taken. -/
  | candidateServiceOctet (line : LineNo) (bits : List Bool)
  /-- CONFIRMATION_POINT (R5, R6): `bits` are the bits received in CHECK. -/
  | confirmationPoint (line : LineNo) (bits : List Bool)
  /-- FRAME_START_STAMP (R14). -/
  | frameStartStamp (line : LineNo)
  /-- ALIGNMENT_WORD_CHECK (R7): `word` is the frame's octet 0. -/
  | alignmentWordCheck (line : LineNo) (word : Octet)
  /-- SERVICE_OCTET_DECODE (R9): `octet` is the frame's octet 1. -/
  | serviceOctetDecode (line : LineNo) (octet : Octet)
  /-- LINE_OCTET_WRITE (R20). -/
  | lineOctetWrite (line : LineNo) (octet : Octet)
  /-- FLOOR_FRAME_BOUNDARY (R65). -/
  | floorFrameBoundary
  /-- READ_MARK (R22). -/
  | readMark (line : LineNo)
  /-- RECEIVER_EPOCH_CLOSE (R16). -/
  | receiverEpochClose (line : LineNo)
  /-- MONITOR_EPOCH_WORK (R41). -/
  | monitorEpochWork
  /-- EPOCH_MARK (R67). -/
  | epochMark
  /-- BULLETIN_MARK (R64). -/
  | bulletinMark
  /-- SELECTION_LOST_NOTICE (R89): the notice names `line`. -/
  | selectionLostNotice (line : LineNo)
  /-- GRADE_CHANGE_NOTICE (R87): the selected line's new accepted grade. -/
  | gradeChangeNotice (line : LineNo) (grade : Nat)
  /-- START_DELIMITER (R104), at the delimiter's first bit time. -/
  | startDelimiter
  /-- INVERTED_DELIMITER (R105). -/
  | invertedDelimiter
  /-- FRAME_END (R121): `samples` are the bit times received since the delimiter, each by its two half levels. -/
  | frameEnd (samples : List (Bool × Bool))
  /-- CARRIER_IDLE (R103). -/
  | carrierIdle
  /-- LAUNCH (R109). -/
  | launch
  /-- TRANSMISSION_RELEASE (R109). -/
  | transmissionRelease
  /-- COLLISION (R110). -/
  | collision
  /-- BACKOFF_EXPIRY (R111). -/
  | backoffExpiry
  /-- JABBER_CUTOFF (R114). -/
  | jabberCutoff
  /-- JABBER_REEXAMINATION (R115). -/
  | jabberReexamination
  /-- SERVE_TIMING (R142). -/
  | serveTiming
  /-- SERVE_INTRO (R147). -/
  | serveIntro
  /-- SERVE_HOLD (R149). -/
  | serveHold
  /-- INQUIRY_LOG (R160). -/
  | inquiryLog
  /-- INQUIRY_LINES (R161). -/
  | inquiryLines
  /-- INQUIRY_PEERS (R162). -/
  | inquiryPeers
  /-- INQUIRY_STATION (R163). -/
  | inquiryStation
  /-- INQUIRY_UNKNOWN_SUBJECT (R135). -/
  | inquiryUnknownSubject
  /-- REPORT_SUBMISSION (R136). -/
  | reportSubmission
  /-- CLEAR (R137). -/
  | clear
  /-- RESTART (R177). -/
  | restart
  deriving DecidableEq, Repr

end Sys2Proof
end

