-- ==== Sys2Proof/Config.lean ====
section
/-! DEFINITION. The numbers that hold in every chapter (00, Fixed numbers), and the free values the spec leaves open. -/

namespace Sys2Proof.Config

/-- The alignment word 6BH. -/
def alignmentWord : Octet := 0x6B#8

/-- The edge watch runs out at 3670 fu (R2). -/
def edgeWatchLimit : Nat := 3670

/-- A line frame is 288 bits. -/
def frameBits : Nat := 288

/-- The search timer runs out at 16 line frame periods (R8). -/
def searchLimit : Nat := 16 * frameBits

/-- The excess limit: slips per epoch (R29). -/
def excessLimit : Nat := 4

/-- The crosscheck limit in fu (03, section 3.1). -/
def crosscheckLimit : Nat := 32

/-- A floor frame is 32768 fu. -/
def floorFrame : Nat := 32768

/-- The largest value of the epoch count and the jump generation (R64, R71). -/
def max32 : Nat := 4294967295

/-- The quiet count at which a bulletin may be launched (R103). -/
def launchQuiet : Nat := 28

/-- The quiet count at which the carrier becomes idle (R103). -/
def idleQuiet : Nat := 4

/-- One bit time of the bus in fu (R100). -/
def bitTime : Nat := 64

/-- One backoff slot in bit times (R111). -/
def backoffSlot : Nat := 64

/-- Attempts per bulletin (R112). -/
def attemptLimit : Nat := 16

/-- The drive run at which the jabber guard cuts off (R114). -/
def jabberRun : Nat := 1025

/-- The largest holdover age (R76). -/
def maxAge : Nat := 65535

/-- The image's length in octets (R171). -/
def imageLength : Nat := 118

/-- The image read lasts 968 SPI clock periods of 64 fu (R171). -/
def spiLength : Nat := 968 * 64

/-- FREE VALUE (R126): how far into its allowed range the submission of a REPORT falls. -/
opaque reportTime : Nat → Nat

/-- FREE VALUE (R127, R159): how many further units of a REPORT are read in a fine-clock period of its building. -/
opaque unitsRead : Nat → Nat

end Sys2Proof.Config
end

