-- ==== Sys2Proof/Machine/State.lean ====
section
/-! DEFINITION. The state of the VR1612, block by block, as plain data. The default of each field is its value at
power-on and at reset-pin assertion (R18, R39, R61, R79, R99, R118, R124, R128, R154, R157, R158, R166, R170); where the
spec gives none the log says so (log 13). -/

namespace Sys2Proof.Machine

/-- Reasons for a step to stop with a fault. The spec names none: no event stops the part, so nothing raises one. This
is safe: it adds no behaviour. -/
inductive Fault where
  deriving DecidableEq, Repr

/-- Reasons for a step to be refused. -/
inductive Refusal where
  /-- Raised only by an arm of `exec` whose command has no meaning yet; every command has one. Safe: it stops. -/
  | notModelled (mnemonic : String)
  deriving DecidableEq, Repr

/-! ### The line receiver (01, section 1.1) -/

/-- Alignment state (01, section 1.2). -/
inductive Align where
  | off | dark | search | check | aligned
  deriving DecidableEq, Repr

/-- The candidate in CHECK (R4, R5). -/
structure Candidate where
  /-- the frame count last confirmed -/
  frameCount : BitVec 2
  /-- the confirmations made, 0 or 1 -/
  confirmations : Nat
  deriving DecidableEq, Repr

/-- A run of equal decoded values (R10, R11): the last value, if any, and how often in a row, up to 4. -/
structure GradeRun where
  last : Option (BitVec 3) := none
  length : Nat := 0
  deriving DecidableEq, Repr

/-- The far-end run (R11). -/
structure FarRun where
  last : Option Bool := none
  length : Nat := 0
  deriving DecidableEq, Repr

/-- The epoch's stamps: the first, the sum of wrapped offsets from it, and their number (R15). -/
structure Accum where
  s0 : Option Nat := none
  sum : Int := 0
  count : Nat := 0
  deriving DecidableEq, Repr

/-- The receiver context. -/
structure Lrx where
  align : Align := .search
  /-- fine-clock periods since the last recovered-clock edge (R2) -/
  edgeWatch : Nat := 0
  /-- the latest bits scanned in SEARCH, at most eight, oldest first (R4) -/
  scan : List Bool := []
  /-- the bits received since the first bit of the candidate, oldest first (R4); in SEARCH it is empty until a candidate is taken -/
  held : List Bool := []
  candidate : Option Candidate := none
  /-- consecutive failed candidates, 0..8 (R6) -/
  failed : Nat := 0
  /-- the search timer in bits: one line frame period is 288 (R8) -/
  searchBits : Nat := 0
  lof : Bool := false
  /-- results of the last four alignment words, newest first, true for errored (R7) -/
  wordWindow : List Bool := []
  gradeRun : GradeRun := {}
  farRun : FarRun := {}
  /-- the accepted grade (R10) -/
  grade : Nat := 6
  /-- the accepted far-end flag (R11) -/
  farEnd : Bool := true
  /-- parity of the previous aligned frame's traffic (R12) -/
  trafficParity : Option Bool := none
  /-- parity of the traffic octets of the frame in progress -/
  trafficAcc : Bool := false
  parityCount : Nat := 0
  acc : Accum := {}
  /-- the accumulation as it stood before the frame start not yet judged (R14; log 7) -/
  accBefore : Option Accum := none
  alignedThroughout : Bool := false
  jumpFlag : Bool := false
  /-- a jump notice taken before the close of the ending epoch (R16) -/
  jumpAhead : Bool := false
  /-- the line phase of the last completed epoch, or invalid (R17) -/
  prevPhase : Option Nat := none
  /-- bits received since entry to ALIGNED, within the dead time or the frame (R5; log 16) -/
  rxCount : Nat := 0
  /-- the bits of the octet in assembly (log 16) -/
  rxBits : List Bool := []
  /-- the recovered clock as last sampled -/
  clockSeen : Bool := false
  deriving DecidableEq, Repr

/-! ### The elastic store and the output framer (02, section 2.1) -/

/-- The cause of a recentre request (R27). -/
inductive Cause where
  | aligned | jump
  deriving DecidableEq, Repr

/-- The store context. -/
structure Store where
  /-- 8 cells of 36 octets; cell c octet k stands at 36 c + k -/
  cells : Vector Octet 288 := Vector.replicate 288 0xFF#8
  /-- cell marks, true for FRESH (R21) -/
  fresh : Vector Bool 8 := Vector.replicate 8 false
  /-- the write position W -/
  w : Fin 288 := 0
  /-- the next read cell N -/
  n : Fin 8 := 0
  /-- the current fill -/
  fill : Nat := 0
  repeatPending : Bool := false
  deletePending : Bool := false
  request : Option Cause := none
  slipTotal : Nat := 0
  epochSlips : Nat := 0
  excess : Bool := false
  deriving DecidableEq, Repr

/-- Squelch reason (R31). -/
inductive Reason where
  | none | line | floor
  deriving DecidableEq, Repr

/-- The frame in hand: the cell handed, and whether it is a traffic frame (R31). -/
structure InHand where
  cell : Fin 8
  traffic : Bool
  deriving DecidableEq, Repr

/-- The framer's context. -/
structure Framer where
  inHand : Option InHand := none
  /-- the outgoing frame count -/
  count : Fin 4 := 0
  /-- the outgoing parity (R35) -/
  parity : Option Bool := none
  reason : Reason := .none
  /-- the traffic frame in progress has been squelched (R32) -/
  squelched : Bool := false
  /-- the octet of the outgoing frame being sent -/
  octetIndex : Option Nat := none
  octet : Octet := 0xFF#8
  /-- exclusive-or of the traffic bits sent so far in the frame in progress (R35) -/
  parityAcc : Bool := false
  /-- the output pin -/
  out : Bool := true
  deriving DecidableEq, Repr

/-! ### The line monitors (03, section 3.1) -/

/-- One flag for each line condition (R50). -/
structure LineFlags where
  lof : Bool := false
  wander : Bool := false
  diverge : Bool := false
  degraded : Bool := false
  excess : Bool := false
  crosscheck : Bool := false
  deriving DecidableEq, Repr

/-- The monitor context of one line. LOF and EXCESS are held by their owners, `Lrx.lof` and `Store.excess`. -/
structure Monitor where
  /-- the phase, drift and parity count handed at the last epoch close (R17) -/
  handedPhase : Option Nat := none
  handedDrift : Option Int := none
  handedParity : Nat := 0
  wander : Bool := false
  diverge : Bool := false
  degraded : Bool := false
  crosscheck : Bool := false
  prevDrift : Option Int := none
  wanderRun : Nat := 0
  divergeRun : Nat := 0
  crossRun : Nat := 0
  crossReleaseRun : Nat := 0
  latched : LineFlags := {}
  /-- otherwise qualified (R52) -/
  otherwise : Bool := false
  /-- the wait-to-restore counter (R53) -/
  wtr : Nat := 0
  candidate : Bool := false
  deriving DecidableEq, Repr

/-- All that belongs to one tributary line. -/
structure Line where
  lrx : Lrx := {}
  store : Store := {}
  framer : Framer := {}
  mon : Monitor := {}
  deriving DecidableEq, Repr

/-! ### The configuration (10, section 10.3) -/

/-- The fields of one line (R174). The defaults are those of the image's table. -/
structure LineSetup where
  enable : Bool := true
  mayAnchor : Bool := false
  priority : Nat := 8
  wanderLimit : Nat := 24
  divergeLimit : Nat := 16
  parityLimit : Nat := 8
  wtrCode : Nat := 4
  slipLow : Nat := 18
  slipHigh : Nat := 270
  maskWander : Bool := false
  maskDiverge : Bool := false
  maskDegraded : Bool := false
  maskExcess : Bool := false
  maskCrosscheck : Bool := false
  deriving DecidableEq, Repr

/-- The decoded and clamped image (R173, R174). The defaults are those of the image's table. -/
structure Setup where
  profile : Octet := 0#8
  holdEpochs : Nat := 8
  holdoverLimit : Nat := 120
  pullLimit : Nat := 25600
  jumpThreshold : Nat := 512
  lockWindow : Nat := 64
  delayComp : Nat := 0
  slewCode : Nat := 15
  anchorGain : Nat := 4
  weight1 : Nat := 16
  weight2 : Nat := 8
  weight3 : Nat := 4
  weight4 : Nat := 2
  weight5 : Nat := 1
  kp : Nat := 5
  ki : Nat := 3
  intervalCode : Nat := 1
  lines : Vector LineSetup 16 := Vector.replicate 16 {}
  deriving DecidableEq, Repr

/-- The loader's phase (10). -/
inductive LoadPhase where
  | reading | done
  deriving DecidableEq, Repr

/-- The loader's context (10). The count of octets received is the buffer's length. -/
structure Loader where
  phase : LoadPhase := .reading
  buffer : List Octet := []
  /-- the bits of the octet being clocked in, first received first -/
  bits : List Bool := []
  /-- fine-clock periods since the transaction began -/
  fu : Nat := 0
  strap : BitVec 4 := 0#4
  deriving DecidableEq, Repr

/-! ### The floor clock unit (04, section 4.1) and its steering (05, section 5.1) -/

/-- The floor states (04, section 4.4). -/
inductive FloorState where
  | loading | start | acquire | track
  deriving DecidableEq, Repr

/-- The length of the floor frame in progress (R65). -/
inductive FrameKind where
  | normal | short | long
  deriving DecidableEq, Repr

/-- The clock part of the unit. -/
structure Floor where
  /-- floor time, 0..32767 -/
  time : Nat := 0
  /-- a long frame has read 32767 once (R65) -/
  secondRead : Bool := false
  kind : FrameKind := .normal
  /-- the combined error E whose jump is made in the next fine-clock period (R70) -/
  shift : Option Int := none
  /-- the generation of unshifted floor time, while a jump's shift is still to be made (R71; log 38) -/
  unshifted : Nat := 0
  /-- the frame in progress is cut by a jump (R36) -/
  cut : Bool := false
  /-- frame-in-epoch, 0..63 -/
  frame : Nat := 0
  epoch : Nat := 0
  /-- the residue R -/
  residue : Int := 0
  /-- the frequency word F, in steps -/
  freq : Int := 0
  /-- the integral I, in sixty-fourths of a step -/
  integral : Int := 0
  generation : Nat := 0
  state : FloorState := .loading
  listen : Nat := 0
  lock : Nat := 0
  unlock : Nat := 0
  /-- the last epoch mark ended the listen period (R64, R133) -/
  listenEnded : Bool := false
  /-- no TIMING has been built since the last epoch mark (R131) -/
  epochFirst : Bool := false
  /-- the TIMING sequence counter (R130) -/
  sequence : Nat := 0
  deriving DecidableEq, Repr

/-- The four roles; "none" is the absence of one. -/
inductive Role where
  | anchored | following | holding | free
  deriving DecidableEq, Repr

/-- What a peer last announced in a TIMING. -/
structure Announced where
  role : Role
  grade : Nat
  state : FloorState
  deriving DecidableEq, Repr

/-- The state of a peer entry (08, section 8.1). -/
inductive PeerState where
  | absent | joining | active | stale | mismatched
  deriving DecidableEq, Repr

/-- A peer as handed at step 1 of the epoch work (R145). -/
structure PeerSnap where
  state : PeerState := .absent
  announced : Option Announced := none
  profileMatches : Bool := false
  sum : Int := 0
  count : Nat := 0
  generation : Nat := 0
  deriving DecidableEq, Repr

/-- The steering part of the unit. -/
structure Steer where
  role : Option Role := none
  /-- the leading grade G* -/
  leading : Option Nat := none
  announced : Nat := 6
  ownHold : Nat := 0
  /-- the build-out offset -/
  offset : Option Nat := none
  anchor : Option LineNo := none
  /-- the count of the deferred HOLD (R106) -/
  deferredHold : Option Nat := none
  /-- the holdover ring, oldest first -/
  ring : List Int := []
  runCount : Nat := 0
  historyValid : Bool := false
  holdAge : Nat := 65535
  /-- the holdover value in use, H (R90) -/
  holdover : Option Int := none
  snapshot : Vector PeerSnap 12 := Vector.replicate 12 {}
  peerHold : Bool := false
  /-- the crosscheck record's anchor line and anchor term (R97) -/
  recordAnchor : Option (LineNo × Int) := none
  /-- the crosscheck record's peer mean (R97) -/
  recordMean : Option Int := none
  deriving DecidableEq, Repr

/-! ### The bus interface (06, section 6.1) -/

/-- A bulletin's octets, the two check octets left out (R102). -/
abbrev Bulletin := List Octet

/-- The transmit slots (R106). -/
inductive Slot where
  | timing | hold | intro | report
  deriving DecidableEq, Repr

/-- The phases of the bulletin in flight (R107). -/
inductive Phase where
  | gap | sending | backoff
  deriving DecidableEq, Repr

/-- The bulletin in flight. It stays in its slot; a REPORT in flight is the oldest. -/
structure Flight where
  slot : Slot
  phase : Phase := .gap
  attempts : Nat := 0
  /-- remaining backoff in bit times -/
  backoff : Nat := 0
  /-- the restart-kept mark (R119) -/
  kept : Bool := false
  /-- fine-clock periods since the launch -/
  sent : Nat := 0
  /-- after a read-back mismatch, the periods since the launch at which the driver goes off (R110) -/
  stop : Option Nat := none
  deriving DecidableEq, Repr

/-- The frame in reception (R104). -/
structure RxFrame where
  octets : List Octet := []
  /-- the bits of the octet in assembly -/
  bits : List Bool := []
  /-- the last bit time was a violation -/
  violation : Bool := false
  stamp : Nat := 0
  generation : Nat := 0
  ownEcho : Bool := false
  deriving DecidableEq, Repr

/-- What is noted as a bit time begins at the bus receiver: the stamp, its generation, and whether the transmitter is in
SENDING (R71, R78, R104). -/
structure Mark where
  stamp : Nat := 0
  generation : Nat := 0
  own : Bool := false
  deriving DecidableEq, Repr

/-- A bit time received: the levels at the centres of its halves, true for high (R100), and what was noted at its
beginning. -/
structure BitTime where
  halves : Bool × Bool
  mark : Mark := {}
  deriving DecidableEq, Repr

/-- The recovery of bit times from the pair (R100; log 10). -/
structure Recovery where
  /-- the place of a middle transition has been found -/
  locked : Bool := false
  /-- the place in the bit time being received, 0..63 -/
  phase : Nat := 0
  /-- periods since the last transition, up to 81; at reset none has been seen (log 13) -/
  since : Nat := 81
  /-- what was noted at the beginning of the bit time being received -/
  mark : Option Mark := none
  /-- the level at the centre of its first half -/
  first : Option Bool := none
  /-- the latest bit times received, at most eight, oldest first (R101) -/
  recent : List BitTime := []
  deriving DecidableEq, Repr

/-- The bus interface's context. -/
structure Bus where
  /-- receive polarity, true for inverted (R105) -/
  inverted : Bool := false
  invertedRun : Nat := 0
  quiet : Nat := 0
  busy : Bool := true
  frame : Option RxFrame := none
  /-- the pair is ignored until the carrier is next idle (R104, R105) -/
  ignoring : Bool := false
  timing : Option Bulletin := none
  hold : Option Bulletin := none
  intro : Option Bulletin := none
  /-- the REPORT slots, oldest first -/
  reports : List Bulletin := []
  flight : Option Flight := none
  driveRun : Nat := 0
  enabled : Bool := true
  jabber : Bool := false
  /-- epoch marks since the jabber cut, up to 2 (R115) -/
  marksSinceCut : Nat := 0
  echoMiss : Nat := 0
  echo : Bool := false
  /-- how the own echo of the launch in progress ended, if it has (R113) -/
  echoResult : Option Bool := none
  /-- the launch is released and its echo still held by the receive path (R113) -/
  echoAwaited : Bool := false
  contention : Nat := 0
  /-- the receiver's bit times (R100) -/
  recovery : Recovery := {}
  bitPhase : Nat := 0
  sawEdge : Bool := false
  lastLevel : Bool := false
  deriving DecidableEq, Repr

/-! ### The bulletin unit (07, 08) -/

/-- An entry of the receive queue (R125): all octets, check included, with arrival stamp and generation. -/
structure RxEntry where
  octets : List Octet
  stamp : Nat
  generation : Nat
  deriving DecidableEq, Repr

/-- A peer entry (08, section 8.1). The defaults are those of an ABSENT entry. -/
structure Peer where
  state : PeerState := .absent
  announced : Option Announced := none
  profile : Octet := 0#8
  firstMark : Bool := false
  lastSeq : Option Nat := none
  missed : Nat := 0
  sinceAny : Nat := 0
  sinceTiming : Nat := 0
  sum : Int := 0
  count : Nat := 0
  generation : Nat := 0
  hold : Nat := 0
  urgent : Bool := false
  nonurgent : Bool := false
  deriving DecidableEq, Repr

/-- The REPORT being built for the INQUIRY in service (R126, R127, R136). -/
structure Build where
  subject : Octet
  parameter : Nat
  /-- the inquirer's station number -/
  inquirer : BitVec 4
  /-- units read so far (R159) -/
  unitsDone : Nat := 0
  /-- payload octet k at bits 8 k + 7 .. 8 k -/
  payload : BitVec 384 := 0#384
  items : Nat := 0
  more : Bool := false
  gap : Bool := false
  /-- fine-clock periods in service -/
  age : Nat := 0
  /-- the period at which it is submitted, 1..16384 (R126) -/
  delay : Nat := 1
  deriving DecidableEq, Repr

/-- The error counters (R124). -/
structure Counters where
  crc : Nat := 0
  length : Nat := 0
  kind : Nat := 0
  overflow : Nat := 0
  misdirect : Nat := 0
  deriving DecidableEq, Repr

/-! ### The slip log (09, section 9.1) and status (09, section 9.3) -/

/-- What a record tells of: a slip, or a realignment with its cause (R26, R28). -/
inductive RecordKind where
  | slipRepeat | slipDelete | realignAligned | realignJump
  deriving DecidableEq, Repr

/-- A slip log record (R156). -/
structure Record where
  sequence : Nat
  kind : RecordKind
  line : LineNo
  epoch : Nat
  before : Nat
  after : Nat
  grade : Nat
  deriving DecidableEq, Repr

/-- The slip log. -/
structure Log where
  /-- oldest first, at most 64 -/
  records : List Record := []
  next : Nat := 0
  overwrites : Nat := 0
  deriving DecidableEq, Repr

/-- The latched station flags (R164). -/
structure StationFlags where
  duplicate : Bool := false
  echo : Bool := false
  jabber : Bool := false
  contend : Bool := false
  profile : Bool := false
  config : Bool := false
  deriving DecidableEq, Repr

/-- The input pins the clockwork samples (00, Pin summary). -/
structure Pins where
  lineClock : BitVec 16 := 0#16
  lineData : BitVec 16 := 0#16
  /-- the pair as the receive path reads it -/
  busLevel : Bool := false
  /-- the pair at the line driver's sense point (R110), nothing while it stands at neither defined level -/
  senseLevel : Option Bool := none
  driveSense : Bool := false
  spiDataIn : Bool := false
  deriving DecidableEq, Repr

/-! ### The part -/

/-- The state of the VR1612 and the queue of commands that wait for it. -/
structure State where
  /-- the commands waiting, first in first out -/
  pending : List Instr := []
  /-- the part's own commands that have come about and are not yet taken (log 4) -/
  due : List Instr := []
  /-- counts the free values used (log 12) -/
  freeCount : Nat := 0
  pins : Pins := {}
  /-- the reset pin is asserted, or power-on is not over (R170) -/
  inReset : Bool := true
  loader : Loader := {}
  setup : Setup := {}
  lines : Vector Line 16 := Vector.replicate 16 {}
  /-- the reference selector's selected line (R56) -/
  selected : Option LineNo := none
  /-- a selection-lost notice not yet taken by the floor clock unit (R59) -/
  lostNotice : Option LineNo := none
  /-- a grade change not yet taken by the floor clock unit (R58) -/
  gradeNotice : Option (LineNo × Nat) := none
  floor : Floor := {}
  steer : Steer := {}
  bus : Bus := {}
  queue : List RxEntry := []
  /-- RESTARTs that stood in the queue behind one since served: each still restarts the station (R138, R177; log 37) -/
  restartsWaiting : Nat := 0
  service : Option Build := none
  counters : Counters := {}
  inquiryDropped : Bool := false
  peers : Vector Peer 12 := Vector.replicate 12 {}
  /-- the live DUPLICATE condition (R152) -/
  duplicate : Bool := false
  log : Log := {}
  flags : StationFlags := {}
  deriving DecidableEq, Repr

/-- The part right after power-on or reset-pin assertion, held in reset (R170). -/
def State.reset : State := {}

end Sys2Proof.Machine
end

