-- ==== Sys2Proof/Machine/Operands.lean ====
section
/-! DEFINITION. The forms the part's words take outside: bits and octets, the service octet, the bus check, the bit times
of the bus, and the fields of bulletins (07, section 7.1). -/

namespace Sys2Proof.Machine

/-! ### Bits and octets -/

/-- The bits of an octet as they are sent on the line and the bus, least significant first (00, Layouts). -/
def octetBits (o : Octet) : List Bool :=
  [o.getLsbD 0, o.getLsbD 1, o.getLsbD 2, o.getLsbD 3, o.getLsbD 4, o.getLsbD 5, o.getLsbD 6, o.getLsbD 7]

/-- The number whose bits are given least significant first. -/
def bitsToNat : List Bool → Nat
  | [] => 0
  | b :: bs => b.toNat + 2 * bitsToNat bs

/-- The octet whose bits arrived least significant first. -/
def bitsOctet (bs : List Bool) : Octet := BitVec.ofNat 8 (bitsToNat bs)

/-- The octet of the configuration memory, which sends its most significant bit first (R171). -/
def bitsOctetMsb (bs : List Bool) : Octet := bitsOctet bs.reverse

/-- The exclusive-or of an octet's bits (R12, R35). -/
def octetParity (o : Octet) : Bool := (octetBits o).foldl Bool.xor false

/-! ### The service octet (07, section 7.1) -/

/-- A grade code read as a grade: 0 and 7 are read as 6 (R10, R120). -/
def gradeOfCode (code : BitVec 3) : Nat :=
  if code = 0#3 ∨ code = 7#3 then 6 else code.toNat

/-- Grade code, bits 7..5. -/
def serviceGrade (o : Octet) : BitVec 3 := o.extractLsb' 5 3

/-- Far-end alarm, bit 4. -/
def serviceFarEnd (o : Octet) : Bool := o.getLsbD 4

/-- Parity bit, bit 3. -/
def serviceParity (o : Octet) : Bool := o.getLsbD 3

/-- Frame count, bits 2..1. -/
def serviceCount (o : Octet) : BitVec 2 := o.extractLsb' 1 2

/-- The outgoing service octet; the spare bit 0 is sent 0 (R34, R35). -/
def serviceOctet (grade : Nat) (farEnd parity : Bool) (count : Nat) : Octet :=
  BitVec.ofNat 8 (grade % 8 * 32 + farEnd.toNat * 16 + parity.toNat * 8 + count % 4 * 2)

/-! ### The check of a bulletin (R102) -/

/-- One bit into the check register. -/
def checkBit (reg : BitVec 16) (b : Bool) : BitVec 16 :=
  if b != reg.getLsbD 15 then (reg <<< 1) ^^^ 0x1021#16 else reg <<< 1

/-- The check register after the octets, started at all ones. -/
def checkRegister (octets : List Octet) : BitVec 16 :=
  (octets.flatMap octetBits).foldl checkBit 0xFFFF#16

/-- The two check octets as sent: the coefficient of x^15 goes out first. -/
def checkOctets (octets : List Octet) : List Octet :=
  let r := checkRegister octets
  [bitsOctet [r.getLsbD 15, r.getLsbD 14, r.getLsbD 13, r.getLsbD 12, r.getLsbD 11, r.getLsbD 10, r.getLsbD 9, r.getLsbD 8],
   bitsOctet [r.getLsbD 7, r.getLsbD 6, r.getLsbD 5, r.getLsbD 4, r.getLsbD 3, r.getLsbD 2, r.getLsbD 1, r.getLsbD 0]]

/-- A bulletin with its check. -/
def withCheck (octets : List Octet) : List Octet := octets ++ checkOctets octets

/-- The receiver's comparison over every octet but the last two (R102). -/
def checkGood (octets : List Octet) : Bool :=
  octets.drop (octets.length - 2) == checkOctets (octets.take (octets.length - 2))

/-! ### The bit times of the bus (R100, R101), each as its two half levels, true for high -/

/-- A one is sent high then low, a zero low then high. -/
def bitHalves (b : Bool) : Bool × Bool := (b, !b)

/-- 16 alternating bits, starting with a one. -/
def preamble : List (Bool × Bool) :=
  [true, false, true, false, true, false, true, false, true, false, true, false, true, false, true, false].map bitHalves

/-- A violation held high, one held low, then 1, 1, 0, 1, 0, 0. -/
def startMark : List (Bool × Bool) :=
  (true, true) :: (false, false) :: [true, true, false, true, false, false].map bitHalves

/-- The end delimiter: two violations at the level of the last half-bit sent. -/
def endMark (octets : List Octet) : List (Bool × Bool) :=
  let level := !((octets.flatMap octetBits).getLastD false)
  [(level, level), (level, level)]

/-- What follows the start delimiter of a bulletin whose octets, check included, are given. -/
def bodySamples (octets : List Octet) : List (Bool × Bool) :=
  (octets.flatMap octetBits).map bitHalves ++ endMark octets

/-- The whole bulletin on the wire (R101). -/
def wireSamples (octets : List Octet) : List (Bool × Bool) :=
  preamble ++ startMark ++ bodySamples octets

/-- The level the driver puts on the pair `fu` periods after the launch, or nothing once it is released. -/
def wireLevel (octets : List Octet) (fu : Nat) : Option Bool :=
  ((wireSamples octets)[fu / Config.bitTime]?).map fun h =>
    if fu % Config.bitTime < Config.bitTime / 2 then h.1 else h.2

/-- A bit time read against the receive polarity (R105). -/
def readHalves (inverted : Bool) (h : Bool × Bool) : Bool × Bool := (h.1 != inverted, h.2 != inverted)

/-- A start delimiter as the receiver reads it (R105). -/
inductive Delimiter where
  | normal | inverted
  deriving DecidableEq, Repr

/-- The start delimiter that the latest eight bit times hold, read against the receive polarity: the pattern of R101 is the
normal one, its inverse the inverted one (R101, R105). -/
def delimiterIn (inverted : Bool) (recent : List (Bool × Bool)) : Option Delimiter :=
  if recent.map (readHalves inverted) = startMark then some .normal
  else if recent.map (readHalves !inverted) = startMark then some .inverted
  else none

/-- How the receiver stands after a bit time (R104). -/
inductive RxStep where
  /-- the frame goes on -/
  | going (f : RxFrame)
  /-- it has ended, good-framed or with a framing fault; `tooLong` when a 65th octet had begun -/
  | ended (f : RxFrame) (good tooLong : Bool)
  deriving DecidableEq, Repr

/-- One bit time into a frame in reception, read against the receive polarity (R104, R105). -/
def receiveSample (inverted : Bool) (f : RxFrame) (h : Bool × Bool) : RxStep :=
  if f.violation then
    if h.1 = h.2 then .ended f (f.bits.isEmpty && decide (2 ≤ f.octets.length)) false
    else .ended f false false
  else if h.1 = h.2 then .going { f with violation := true }
  else if f.octets.length = 64 then .ended f false true
  else
    let bits := f.bits ++ [h.1 != inverted]
    if bits.length = 8 then .going { f with octets := f.octets ++ [bitsOctet bits], bits := [] }
    else .going { f with bits := bits }

/-- The bit times of a frame in reception, up to the one that ends it; what follows is not the frame's. -/
def receive (inverted : Bool) : RxFrame → List (Bool × Bool) → RxStep
  | f, [] => .going f
  | f, h :: hs =>
    match receiveSample inverted f h with
    | .going f' => receive inverted f' hs
    | .ended f' good long => .ended f' good long

/-! ### Fields of bulletins (07, section 7.1) -/

/-- An octet's value, 0 where the octets end before it. -/
def octetAt (octets : List Octet) (k : Nat) : Nat := (octets.getD k 0#8).toNat

/-- Kind, octet 0 bits 7..4. -/
def kindOf (octets : List Octet) : Nat := octetAt octets 0 / 16

/-- Source station number, octet 0 bits 3..0. -/
def sourceOf (octets : List Octet) : Nat := octetAt octets 0 % 16

/-- Destination, octet 1. -/
def destinationOf (octets : List Octet) : Nat := octetAt octets 1

/-- Bit k of octet n. -/
def flagAt (octets : List Octet) (n k : Nat) : Bool := (octets.getD n 0#8).getLsbD k

/-- The launch stamp's 15 bits (R120). -/
def launchStampOf (octets : List Octet) : Nat := octetAt octets 2 + octetAt octets 3 % 128 * 256

/-- The role coded in TIMING octet 4. -/
def roleOfCode (n : Nat) : Role :=
  match n % 4 with
  | 0 => .anchored
  | 1 => .following
  | 2 => .holding
  | _ => .free

/-- TIMING's code of a role. -/
def Role.code : Role → Nat
  | .anchored => 0
  | .following => 1
  | .holding => 2
  | .free => 3

/-- The floor state coded in TIMING octet 4. -/
def floorStateOfCode (n : Nat) : FloorState :=
  match n % 4 with
  | 0 => .loading
  | 1 => .start
  | 2 => .acquire
  | _ => .track

/-- The code of a floor state. -/
def FloorState.code : FloorState → Nat
  | .loading => 0
  | .start => 1
  | .acquire => 2
  | .track => 3

/-- The announced role, grade and floor state of a TIMING. -/
def announcedOf (octets : List Octet) : Announced :=
  let o := octetAt octets 4
  { role := roleOfCode (o / 64), grade := gradeOfCode (BitVec.ofNat 3 (o / 8)), state := floorStateOfCode (o / 2) }

/-- The code of an alignment state; an OFF line is never listed. -/
def Align.code : Align → Nat
  | .off => 0
  | .dark => 0
  | .search => 1
  | .check => 2
  | .aligned => 3

/-- The code of a peer entry's state in a PEERS item. -/
def PeerState.code : PeerState → Nat
  | .absent => 0
  | .joining => 1
  | .active => 2
  | .stale => 3
  | .mismatched => 4

/-- Header octets of a bulletin this station sends. -/
def header (kind source destination : Nat) : List Octet :=
  [BitVec.ofNat 8 (kind * 16 + source % 16), BitVec.ofNat 8 destination]

/-- A field of a REPORT payload: its first bit, its width, its value. -/
structure Field where
  pos : Nat
  width : Nat
  value : Nat
  deriving DecidableEq, Repr

/-- A field in its place. -/
def Field.bits (f : Field) : BitVec 384 := BitVec.ofNat 384 (f.value % 2 ^ f.width) <<< f.pos

/-- The fields together. -/
def packFields (fs : List Field) : BitVec 384 := fs.foldl (fun acc f => acc ||| f.bits) 0#384

/-- The first `n` octets of a payload. -/
def payloadOctets (p : BitVec 384) (n : Nat) : List Octet :=
  (List.range n).map fun k => p.extractLsb' (8 * k) 8

/-- A signed quantity in two's complement over `w` bits (R120). -/
def twosComplement (w : Nat) (x : Int) : Nat := (BitVec.ofInt w x).toNat

end Sys2Proof.Machine
end

