-- ==== Sys2Proof/Machine/Ops.lean ====
section
/-! DEFINITION. The named operations the meanings share: arithmetic on phases, access to the lines and peers, the slip
log. -/

namespace Sys2Proof.Machine

/-! ### Arithmetic (00, Conventions) -/

/-- A phase difference brought into -16384..16383. -/
def wrap (x : Int) : Int := (x + 16384) % 32768 - 16384

/-- The quotient rounded to the nearest integer, halves away from zero. -/
def roundDiv (a : Int) (b : Nat) : Int :=
  if 0 ≤ a then (2 * a + b) / (2 * b) else -((-2 * a + b) / (2 * b))

/-- Clamped to plus or minus `lim`. -/
def clamp (lim : Nat) (x : Int) : Int := max (-(lim : Int)) (min (lim : Int) x)

/-- A counter that holds at its maximum. -/
def bump (lim n : Nat) : Nat := if n < lim then n + 1 else n

/-- A remainder as a floor time. -/
def floorMod (x : Int) : Nat := (x % 32768).toNat

/-! ### Lines -/

/-- The sixteen lines in ascending order. -/
def allLines : List LineNo := [0, 1, 2, 3, 4, 5, 6, 7, 8, 9, 10, 11, 12, 13, 14, 15]

/-- One line's state. -/
def State.line (s : State) (l : LineNo) : Line := s.lines.get l

/-- Replaces one line's state. -/
def State.setLine (s : State) (l : LineNo) (x : Line) : State := { s with lines := s.lines.set l x }

/-- Changes one line's receiver. -/
def State.onLrx (s : State) (l : LineNo) (f : Lrx → Lrx) : State :=
  s.setLine l { s.line l with lrx := f (s.line l).lrx }

/-- Changes one line's store. -/
def State.onStore (s : State) (l : LineNo) (f : Store → Store) : State :=
  s.setLine l { s.line l with store := f (s.line l).store }

/-- Changes one line's framer. -/
def State.onFramer (s : State) (l : LineNo) (f : Framer → Framer) : State :=
  s.setLine l { s.line l with framer := f (s.line l).framer }

/-- Changes one line's monitor. -/
def State.onMon (s : State) (l : LineNo) (f : Monitor → Monitor) : State :=
  s.setLine l { s.line l with mon := f (s.line l).mon }

/-- One line's configuration. -/
def State.lineSetup (s : State) (l : LineNo) : LineSetup := s.setup.lines.get l

/-- The line's enable field. -/
def State.enabled (s : State) (l : LineNo) : Bool := (s.lineSetup l).enable

/-- The enabled lines, ascending. -/
def State.enabledLines (s : State) : List LineNo := allLines.filter fun l => s.enabled l

/-- Does the line hold alignment? -/
def State.isAligned (s : State) (l : LineNo) : Bool := (s.line l).lrx.align == .aligned

/-- Applies an operation of one line to each line of a list in turn. -/
def State.forLines (s : State) (ls : List LineNo) (f : State → LineNo → State) : State := ls.foldl f s

/-! ### The station -/

/-- The part works outside LOADING (R68, R176). -/
def State.running (s : State) : Bool := s.floor.state != .loading

/-- The floor is in ACQUIRE or TRACK. -/
def State.steered (s : State) : Bool := s.floor.state == .acquire || s.floor.state == .track

/-- The station number (R175). -/
def State.number (s : State) : Nat := s.loader.strap.toNat

/-- Standalone mode: straps 12..15 (R117, R175). -/
def State.standalone (s : State) : Bool := decide (12 ≤ s.number)

/-- The bus interface works outside LOADING and outside standalone mode (R104, R117). -/
def State.onBusNow (s : State) : Bool := s.running && !s.standalone

/-- The bulletin interval in floor frames (R64, R174). -/
def State.interval (s : State) : Nat :=
  match s.setup.intervalCode with
  | 0 => 8
  | 1 => 16
  | _ => 32

/-- Takes one of the part's own commands off the list of those that have come about (log 4). -/
def State.took (s : State) (c : Instr) : State := { s with due := s.due.erase c }

/-! ### Peers -/

/-- One peer entry. -/
def State.peer (s : State) (p : PeerNo) : Peer := s.peers.get p

/-- Replaces one peer entry. -/
def State.setPeer (s : State) (p : PeerNo) (e : Peer) : State := { s with peers := s.peers.set p e }

/-- The twelve positions in ascending order. -/
def allPeers : List PeerNo := [0, 1, 2, 3, 4, 5, 6, 7, 8, 9, 10, 11]

/-- Changes every entry. -/
def mapPeers (f : Peer → Peer) (ps : Vector Peer 12) : Vector Peer 12 :=
  allPeers.foldl (fun v (p : PeerNo) => v.set p (f (ps.get p))) ps

/-! ### The slip log (R156) -/

/-- Adds a record as the newest; a full log first loses its oldest. -/
def Log.add (g : Log) (kind : RecordKind) (line : LineNo) (epoch before after grade : Nat) : Log :=
  let r : Record := ⟨g.next, kind, line, epoch, before, after, grade⟩
  if g.records.length < 64 then
    { g with records := g.records ++ [r], next := (g.next + 1) % 65536 }
  else
    { records := g.records.drop 1 ++ [r], next := (g.next + 1) % 65536, overwrites := bump 255 g.overwrites }

end Sys2Proof.Machine
end

