-- ==== Sys2Proof/Machine/Flags.lean ====
section
/-! DEFINITION. Conditions, latched flags and pins (03 sections 3.3 to 3.6; 09 sections 9.3 and 9.4), and what each change
of a line condition does to the line's qualification and to the selection. -/

namespace Sys2Proof.Machine

/-- The six line conditions (R50). -/
inductive LineCond where
  | lof | wander | diverge | degraded | excess | crosscheck
  deriving DecidableEq, Repr

/-- The live condition, read at its owner. -/
def Line.live (x : Line) : LineCond → Bool
  | .lof => x.lrx.lof
  | .wander => x.mon.wander
  | .diverge => x.mon.diverge
  | .degraded => x.mon.degraded
  | .excess => x.store.excess
  | .crosscheck => x.mon.crosscheck

/-- Sets the live condition at its owner. -/
def Line.setLive (x : Line) (c : LineCond) (v : Bool) : Line :=
  match c with
  | .lof => { x with lrx := { x.lrx with lof := v } }
  | .wander => { x with mon := { x.mon with wander := v } }
  | .diverge => { x with mon := { x.mon with diverge := v } }
  | .degraded => { x with mon := { x.mon with degraded := v } }
  | .excess => { x with store := { x.store with excess := v } }
  | .crosscheck => { x with mon := { x.mon with crosscheck := v } }

/-- A latched flag. -/
def LineFlags.get (f : LineFlags) : LineCond → Bool
  | .lof => f.lof
  | .wander => f.wander
  | .diverge => f.diverge
  | .degraded => f.degraded
  | .excess => f.excess
  | .crosscheck => f.crosscheck

/-- Writes a latched flag. -/
def LineFlags.put (f : LineFlags) (c : LineCond) (v : Bool) : LineFlags :=
  match c with
  | .lof => { f with lof := v }
  | .wander => { f with wander := v }
  | .diverge => { f with diverge := v }
  | .degraded => { f with degraded := v }
  | .excess => { f with excess := v }
  | .crosscheck => { f with crosscheck := v }

/-- Some flag is set. -/
def LineFlags.any (f : LineFlags) : Bool :=
  f.lof || f.wander || f.diverge || f.degraded || f.excess || f.crosscheck

/-- Some live condition stands on the line (R50, R131). -/
def Line.anyLive (x : Line) : Bool :=
  x.lrx.lof || x.mon.wander || x.mon.diverge || x.mon.degraded || x.store.excess || x.mon.crosscheck

/-- Some station flag is set. -/
def StationFlags.any (f : StationFlags) : Bool :=
  f.duplicate || f.echo || f.jabber || f.contend || f.profile || f.config

/-- PROFILE is live while an entry is MISMATCHED (R141). -/
def profileLive (ps : Vector Peer 12) : Bool := ps.toList.any fun e => e.state == .mismatched

/-- The URGENT pin (R167). -/
def State.urgent (s : State) : Bool :=
  (s.steer.role == some .free && s.steered) || s.duplicate || s.bus.echo || s.bus.jabber

/-- The NONURGENT pin (R168). -/
def State.nonurgent (s : State) : Bool :=
  s.flags.any || s.enabledLines.any fun l => (s.line l).mon.latched.any

/-! ### Qualification and the selection (R52 to R59) -/

/-- The conditions of R52. -/
def qualifies (u : LineSetup) (x : Line) : Bool :=
  u.enable && u.mayAnchor && x.lrx.align == .aligned && decide (1 ≤ x.lrx.grade) && decide (x.lrx.grade ≤ 5) && !x.lrx.farEnd
    && !x.mon.wander && !x.mon.diverge && !x.mon.degraded && !x.store.excess && !x.mon.crosscheck

/-- The monitor after its line has been judged: a change loads the wait, and a wait of 0 makes a candidate at once
(R52, R53, R54, R55). -/
def judge (u : LineSetup) (q : Bool) (m : Monitor) : Monitor :=
  if q = m.otherwise then m
  else { m with otherwise := q, wtr := 16 * u.wtrCode, candidate := q && u.wtrCode == 0 }

/-- Re-judges a line at an event that bears on R52. A disqualification of the selected line drops the selection and
sends the selection-lost notice (R59). -/
def rejudge (l : LineNo) (s : State) : State :=
  let u := s.lineSetup l
  let q := qualifies u (s.line l)
  let lost := (s.line l).mon.otherwise && !q && s.selected == some l
  let s := s.onMon l (judge u q)
  if lost then { s with selected := none, lostNotice := some l } else s

/-- Asserts a line condition: it is live, its latched flag is set, and the line is judged (R49, R50, R52). -/
def raise (c : LineCond) (l : LineNo) (s : State) : State :=
  if (s.line l).live c then s
  else
    let x := (s.line l).setLive c true
    rejudge l (s.setLine l { x with mon := { x.mon with latched := x.mon.latched.put c true } })

/-- Releases a line condition; the latched flag stays (R49, R50, R52). -/
def release (c : LineCond) (l : LineNo) (s : State) : State :=
  if (s.line l).live c then rejudge l (s.setLine l ((s.line l).setLive c false)) else s

/-- Sets the accepted grade (R10). A change is taken by the monitors, and passed to the floor clock unit while the line
stays selected (R58). -/
def acceptGrade (l : LineNo) (g : Nat) (s : State) : State :=
  if (s.line l).lrx.grade = g then s
  else
    let s := rejudge l (s.onLrx l fun r => { r with grade := g })
    if s.selected = some l then { s with gradeNotice := some (l, g) } else s

/-- Sets the accepted far-end flag (R11). -/
def acceptFarEnd (l : LineNo) (v : Bool) (s : State) : State :=
  if (s.line l).lrx.farEnd = v then s else rejudge l (s.onLrx l fun r => { r with farEnd := v })

/-! ### CLEAR (R51, R165) -/

/-- The latched flags a CLEAR leaves: those whose condition is live. -/
def clearedFlags (x : Line) : LineFlags :=
  { lof := x.mon.latched.lof && x.lrx.lof
    wander := x.mon.latched.wander && x.mon.wander
    diverge := x.mon.latched.diverge && x.mon.diverge
    degraded := x.mon.latched.degraded && x.mon.degraded
    excess := x.mon.latched.excess && x.store.excess
    crosscheck := x.mon.latched.crosscheck && x.mon.crosscheck }

/-- R51 on one line. -/
def clearLine (s : State) (l : LineNo) : State :=
  s.onMon l fun m => { m with latched := clearedFlags (s.line l) }

/-- R165. -/
def clearStationFlags (s : State) : State :=
  { s with flags :=
      { duplicate := s.flags.duplicate && s.duplicate
        echo := s.flags.echo && s.bus.echo
        jabber := s.flags.jabber && s.bus.jabber
        contend := false
        profile := s.flags.profile && profileLive s.peers
        config := false } }

/-- Latches PROFILE when the first entry has become MISMATCHED (R141). -/
def latchProfile (before : Vector Peer 12) (s : State) : State :=
  if profileLive s.peers && !profileLive before then { s with flags := { s.flags with profile := true } } else s

end Sys2Proof.Machine
end

