-- ==== Sys2Proof/Machine/Receiver.lean ====
section
/-! DEFINITION. The line receivers (chapter 1): signal, the hunt for the frame, the service octet, parity, stamps, line
phase and drift. -/

namespace Sys2Proof.Machine

/-! ### The hunt (R4, R5, R6) -/

/-- What a bit brings about in the hunt. -/
inductive HuntStep where
  /-- the hunt goes on -/
  | going
  /-- the candidate has failed; the bits after its first are scanned again -/
  | failed (again : List Bool)
  /-- the second confirmation has passed -/
  | aligned
  deriving DecidableEq, Repr

/-- The receiver back in SEARCH after a failed candidate (R6). -/
def Lrx.failCandidate (r : Lrx) : Lrx :=
  { r with align := .search, candidate := none, held := [], scan := [], failed := bump 8 r.failed }

/-- One bit in SEARCH with no candidate taken (R4). -/
def scanBit (r : Lrx) (b : Bool) : Lrx :=
  let bits := (r.scan ++ [b]).drop (r.scan.length + 1 - 8)
  if bits = octetBits Config.alignmentWord then { r with scan := [], held := bits } else { r with scan := bits }

/-- One bit of the candidate's service octet; the eighth takes the frame count and enters CHECK (R4). -/
def serviceBit (r : Lrx) (b : Bool) : Lrx :=
  let held := r.held ++ [b]
  if held.length = 16 then
    { r with held := held, align := .check, candidate := some ⟨serviceCount (bitsOctet (held.drop 8)), 0⟩ }
  else { r with held := held }

/-- One bit in CHECK: the tests stand at the ends of the words and service octets of the two frames that follow (R5). -/
def checkPointBit (r : Lrx) (c : Candidate) (b : Bool) : Lrx × HuntStep :=
  let held := r.held ++ [b]
  let n := held.length
  let octet := bitsOctet (held.drop (n - 8))
  let r := { r with held := held }
  if n = 296 ∨ n = 584 then
    if octet = Config.alignmentWord then (r, .going) else (r.failCandidate, .failed held.tail)
  else if n = 304 ∨ n = 592 then
    if serviceCount octet = c.frameCount + 1#2 then
      if n = 304 then ({ r with candidate := some ⟨serviceCount octet, 1⟩ }, .going) else (r, .aligned)
    else (r.failCandidate, .failed held.tail)
  else (r, .going)

/-- One bit in the hunt. -/
def huntBit (r : Lrx) (b : Bool) : Lrx × HuntStep :=
  match r.align with
  | .search => if r.held.isEmpty then (scanBit r b, .going) else (serviceBit r b, .going)
  | .check =>
    match r.candidate with
    | some c => checkPointBit r c b
    | none => (r, .going)
  | _ => (r, .going)

/-- Bits in the hunt, held bits before live ones: a failure scans the held bits again before the next line bit (R6).
Each failure leaves fewer held bits, so `fuel` of the square of their number is never used up. Answers whether the line
has reached ALIGNED. -/
def huntBits : Nat → Lrx → List Bool → Lrx × Bool
  | 0, r, _ => (r, false)
  | _ + 1, r, [] => (r, false)
  | fuel + 1, r, b :: bs =>
    match huntBit r b with
    | (r', .going) => huntBits fuel r' bs
    | (r', .failed again) => huntBits fuel r' (again ++ bs)
    | (r', .aligned) => (r', true)

/-- The steps one live bit can need. -/
def huntFuel (r : Lrx) : Nat := (r.held.length + 2) * (r.held.length + 2)

/-- Entry to ALIGNED at the receiver (R5). -/
def Lrx.enterAligned (r : Lrx) : Lrx :=
  { r with
    align := .aligned, candidate := none, held := [], scan := [], failed := 0, wordWindow := [], gradeRun := {}, farRun := {},
    farEnd := true, trafficParity := none, trafficAcc := false, accBefore := none, rxCount := 0, rxBits := [] }

/-- W moved forward to the next cell boundary, where it is not on one (R20). -/
def cellBoundary (w : Fin 288) : Fin 288 :=
  if w.val % 36 = 0 then w else Fin.ofNat 288 ((w.val / 36 + 1) * 36)

/-- The store's notice of the entry to ALIGNED: W is moved, all cells turn STALE, and the recentre request is held
(R20, R21, R27). -/
def Store.enterAligned (t : Store) : Store :=
  { t with w := cellBoundary t.w, fresh := Vector.replicate 8 false, request := some .aligned }

/-- The line enters ALIGNED (R5, R8, R20, R21, R27). -/
def enterAligned (l : LineNo) (s : State) : State :=
  let s := s.onLrx l Lrx.enterAligned
  let s := acceptGrade l 6 s
  let s := s.onStore l Store.enterAligned
  rejudge l (release .lof l s)

/-- One bit received in SEARCH or CHECK. The search timer counts it, and LOF is asserted at the eighth failure and at the
timer's sixteenth period (R6, R8). -/
def lineBit (l : LineNo) (s : State) (b : Bool) : State :=
  let r := (s.line l).lrx
  if r.align = .search ∨ r.align = .check then
    let r := { r with edgeWatch := 0, searchBits := bump Config.searchLimit r.searchBits }
    let h := huntBits (huntFuel r) r [b]
    let s := s.onLrx l fun _ => h.1
    if h.2 then enterAligned l s
    else if h.1.failed = 8 ∨ h.1.searchBits = Config.searchLimit then raise .lof l s
    else s
  else s

/-- The bits received on a line, in order. Bits after an entry to ALIGNED are not taken here (log 5). -/
def lineBits (l : LineNo) (bits : List Bool) (s : State) : State := bits.foldl (lineBit l) s

/-- The line scans for a candidate (R4). -/
def inScan (s : State) (l : LineNo) : Bool :=
  s.running && (s.line l).lrx.align == .search && (s.line l).lrx.held.isEmpty

/-- The line has taken a candidate and reads its service octet (R4). -/
def inService (s : State) (l : LineNo) : Bool :=
  s.running && (s.line l).lrx.align == .search && !(s.line l).lrx.held.isEmpty

/-- The line is in CHECK. -/
def inCheck (s : State) (l : LineNo) : Bool := s.running && (s.line l).lrx.align == .check

/-- The line is in SEARCH or CHECK. -/
def inHunt (s : State) (l : LineNo) : Bool :=
  s.running && ((s.line l).lrx.align == .search || (s.line l).lrx.align == .check)

/-! ### Losing the frame (R2, R7, R32) -/

/-- A traffic frame in progress is squelched (R32). -/
def squelch (l : LineNo) (s : State) : State :=
  s.onFramer l fun f =>
    match f.inHand with
    | some h => if h.traffic then { f with squelched := true } else f
    | none => f

/-- Entry to DARK at the receiver (R2). -/
def Lrx.enterDark (r : Lrx) : Lrx :=
  { r with
    align := .dark, edgeWatch := Config.edgeWatchLimit, candidate := none, held := [], scan := [], failed := 0,
    farEnd := true, gradeRun := {}, farRun := {}, trafficParity := none, trafficAcc := false,
    alignedThroughout := false, accBefore := none, rxCount := 0, rxBits := [] }

/-- The line enters DARK (R2, R8, R32). -/
def enterDark (l : LineNo) (s : State) : State :=
  let s := s.onLrx l Lrx.enterDark
  let s := acceptGrade l 6 s
  let s := raise .lof l s
  squelch l (rejudge l s)

/-- Exit from ALIGNED by the third errored word, at the receiver: the frame's start is withdrawn (R7, R14; log 7). -/
def Lrx.exitAligned (r : Lrx) : Lrx :=
  { r with
    align := .search, farEnd := true, gradeRun := {}, farRun := {}, wordWindow := [], trafficParity := none,
    trafficAcc := false, alignedThroughout := false, searchBits := 0, scan := [], held := [], candidate := none,
    acc := r.accBefore.getD r.acc, accBefore := none, rxCount := 0, rxBits := [] }

/-- The line leaves ALIGNED for SEARCH (R7, R32). -/
def exitAligned (l : LineNo) (s : State) : State :=
  let s := s.onLrx l Lrx.exitAligned
  let s := acceptGrade l 6 s
  squelch l (rejudge l s)

/-! ### The service octet (R9 to R13) -/

/-- The grade run with one more decoded code (R10). -/
def GradeRun.next (g : GradeRun) (code : BitVec 3) : GradeRun :=
  if g.last = some code then { g with length := bump 4 g.length } else ⟨some code, 1⟩

/-- The far-end run with one more decoded value (R11). -/
def FarRun.next (g : FarRun) (v : Bool) : FarRun :=
  if g.last = some v then { g with length := bump 4 g.length } else ⟨some v, 1⟩

/-- The parity bit of a decoded frame against the previous frame's traffic (R13). -/
def parityMismatch (r : Lrx) (o : Octet) : Bool :=
  match r.trafficParity with
  | some p => p != serviceParity o
  | none => false

/-- A decoded service octet at the receiver, the acceptances left aside. -/
def Lrx.decode (r : Lrx) (o : Octet) : Lrx :=
  { r with
    edgeWatch := 0
    gradeRun := r.gradeRun.next (serviceGrade o)
    farRun := r.farRun.next (serviceFarEnd o)
    parityCount := if parityMismatch r o then bump 255 r.parityCount else r.parityCount }

/-- The latest alignment word was good (R9). -/
def Lrx.wordGood (r : Lrx) : Bool := r.wordWindow.head? != some true

/-- R9: grade run, far-end run and parity of one decoded frame. -/
def decodeService (l : LineNo) (o : Octet) (s : State) : State :=
  let s := s.onLrx l fun r => r.decode o
  let r := (s.line l).lrx
  let s := if r.gradeRun.length = 4 then acceptGrade l (gradeOfCode (serviceGrade o)) s else s
  if r.farRun.length = 4 then acceptFarEnd l (serviceFarEnd o) s else s

/-! ### Stamps, phase and drift (R14 to R17) -/

/-- An accumulation with one more stamp (R15). -/
def Accum.stamp (a : Accum) (t : Nat) : Accum :=
  match a.s0 with
  | none => ⟨some t, 0, 1⟩
  | some s0 => { a with sum := a.sum + wrap ((t : Int) - s0), count := a.count + 1 }

/-- The line phase of an accumulation (R16). -/
def Accum.phase (a : Accum) : Option Nat :=
  match a.s0 with
  | some s0 => if a.count = 0 then none else some (floorMod ((s0 : Int) + roundDiv a.sum a.count))
  | none => none

/-- The phase of the ending epoch, where it is valid (R16). -/
def Lrx.phase (r : Lrx) : Option Nat :=
  if r.alignedThroughout && !r.jumpFlag then r.acc.phase else none

/-- The line drift, where it is valid (R17). -/
def drift (p prev : Option Nat) : Option Int :=
  match p, prev with
  | some a, some b => some (wrap ((a : Int) - b))
  | _, _ => none

/-- The receiver as the epoch mark leaves it (R13, R15, R16, R17). -/
def Lrx.closeEpoch (r : Lrx) : Lrx :=
  { r with
    prevPhase := r.phase, parityCount := 0, acc := {}, accBefore := none
    alignedThroughout := r.align == .aligned, jumpFlag := r.jumpAhead, jumpAhead := false }

/-- The monitor takes the handed values (R17). -/
def Monitor.handed (m : Monitor) (r : Lrx) : Monitor :=
  { m with handedPhase := r.phase, handedDrift := drift r.phase r.prevPhase, handedParity := r.parityCount }

/-! ### Meanings -/

/-- EDGE_WATCH_EXPIRY (R2): from SEARCH, CHECK or ALIGNED. -/
def execEdgeWatchExpiry (l : LineNo) (s : State) : Host.Outcome State Fault Refusal :=
  .next (if inHunt s l || (s.running && s.isAligned l) then enterDark l s else s)

/-- DARK left for SEARCH, the search timer from 0 (R3). -/
def Lrx.firstEdge (r : Lrx) : Lrx :=
  { r with align := .search, edgeWatch := 0, searchBits := 0, scan := [], held := [], candidate := none }

/-- FIRST_CLOCK_EDGE (R3): the bit clocked by the edge is the first one scanned. -/
def execFirstClockEdge (l : LineNo) (bit : Bool) (s : State) : Host.Outcome State Fault Refusal :=
  .next (if s.running && (s.line l).lrx.align == .dark then lineBit l (s.onLrx l Lrx.firstEdge) bit else s)

/-- SEARCH_TIMER_EXPIRY (R8): the bits up to the expiry are received, and if the line still hunts the timer stands at 16
periods and LOF is asserted. -/
def execSearchTimerExpiry (l : LineNo) (bits : List Bool) (s : State) : Host.Outcome State Fault Refusal :=
  .next (
    if inHunt s l then
      let s := lineBits l bits s
      if inHunt s l then raise .lof l (s.onLrx l fun r => { r with searchBits := Config.searchLimit }) else s
    else s)

/-- CANDIDATE_TAKEN (R4). -/
def execCandidateTaken (l : LineNo) (bits : List Bool) (s : State) : Host.Outcome State Fault Refusal :=
  .next (if inScan s l then lineBits l bits s else s)

/-- CANDIDATE_SERVICE_OCTET (R4). -/
def execCandidateServiceOctet (l : LineNo) (bits : List Bool) (s : State) : Host.Outcome State Fault Refusal :=
  .next (if inService s l then lineBits l bits s else s)

/-- CONFIRMATION_POINT (R5, R6). -/
def execConfirmationPoint (l : LineNo) (bits : List Bool) (s : State) : Host.Outcome State Fault Refusal :=
  .next (if inCheck s l then lineBits l bits s else s)

/-- A frame start stamped in the floor time that stands (R14, R15). -/
def Lrx.stampStart (r : Lrx) (t : Nat) : Lrx := { r with edgeWatch := 0, acc := r.acc.stamp t, accBefore := some r.acc }

/-- FRAME_START_STAMP (R14). -/
def execFrameStartStamp (l : LineNo) (s : State) : Host.Outcome State Fault Refusal :=
  .next (if s.running && s.isAligned l then s.onLrx l fun r => r.stampStart s.floor.time else s)

/-- The word window with one more result (R7). -/
def Lrx.wordResult (r : Lrx) (errored : Bool) : List Bool := (errored :: r.wordWindow).take 4

/-- ALIGNMENT_WORD_CHECK (R7): the third errored word of four leaves ALIGNED. -/
def execAlignmentWordCheck (l : LineNo) (word : Octet) (s : State) : Host.Outcome State Fault Refusal :=
  .next (
    if s.running && s.isAligned l then
      let results := (s.line l).lrx.wordResult (word != Config.alignmentWord)
      let s := s.onLrx l fun r => { r with edgeWatch := 0 }
      if 3 ≤ results.count true then exitAligned l s
      else s.onLrx l fun r => { r with wordWindow := results, accBefore := none }
    else s)

/-- SERVICE_OCTET_DECODE (R9): only a frame with a good word is decoded. -/
def execServiceOctetDecode (l : LineNo) (o : Octet) (s : State) : Host.Outcome State Fault Refusal :=
  .next (if s.running && s.isAligned l && (s.line l).lrx.wordGood then decodeService l o s else s)

/-- The receiver's part of a handed octet, which stands at octet `k` of its frame: the frame's traffic parity (R12). -/
def Lrx.traffic (r : Lrx) (k : Nat) (o : Octet) : Lrx :=
  let acc := if k < 2 then false else r.trafficAcc.xor (octetParity o)
  { r with edgeWatch := 0, trafficAcc := acc, trafficParity := if k = 35 then some acc else r.trafficParity }

/-- The cell of a position. -/
def cellOf (w : Fin 288) : Fin 8 := ⟨w.val / 36, by omega⟩

/-- The store's part: the octet is written at W and W advances; octet 0 turns its cell FRESH (R20, R21). -/
def Store.write (t : Store) (o : Octet) : Store :=
  { t with
    cells := t.cells.set t.w o
    w := t.w + 1
    fresh := if t.w.val % 36 = 0 then t.fresh.set (cellOf t.w) true else t.fresh }

/-- LINE_OCTET_WRITE (R20, R21, R12). -/
def execLineOctetWrite (l : LineNo) (o : Octet) (s : State) : Host.Outcome State Fault Refusal :=
  .next (
    if s.running && s.isAligned l then
      (s.onLrx l fun r => r.traffic ((s.line l).store.w.val % 36) o).onStore l fun t => t.write o
    else s)

/-- RECEIVER_EPOCH_CLOSE (R16, R17, R13, R15): an OFF line hands nothing (R1). -/
def execReceiverEpochClose (l : LineNo) (s : State) : Host.Outcome State Fault Refusal :=
  .next (
    if s.running && s.enabled l then
      ((s.took (.receiverEpochClose l)).onMon l fun m => m.handed (s.line l).lrx).onLrx l Lrx.closeEpoch
    else s.took (.receiverEpochClose l))

end Sys2Proof.Machine
end

