-- ==== Sys2Proof/Machine/Store.lean ====
section
/-! DEFINITION. The elastic stores and the output framers at a read mark (chapter 2): fill, slips, recentring, EXCESS and
the frame decision; and the bits of the outgoing frame. -/

namespace Sys2Proof.Machine

/-! ### Fill and slips (R22 to R28) -/

/-- The fill: octets written since the start of cell `n`, modulo the store's size (R22). -/
def fillOf (w : Fin 288) (n : Fin 8) : Nat := (w.val + 288 - 36 * n.val) % 288

/-- What a read mark calls for (R22, R23). -/
inductive Decision where
  /-- the decision is passed over, or the fill is inside the thresholds: both flags are cleared -/
  | nothing
  /-- the fill is low for the first time -/
  | pendRepeat
  /-- the fill is high for the first time -/
  | pendDelete
  | slipRepeat
  | slipDelete
  | recentre (cause : Cause)
  deriving DecidableEq, Repr

/-- The slip decision on the fill before (R23). -/
def slipDecision (u : LineSetup) (t : Store) (f : Nat) : Decision :=
  if f < u.slipLow then (if t.repeatPending then .slipRepeat else .pendRepeat)
  else if u.slipHigh < f then (if t.deletePending then .slipDelete else .pendDelete)
  else .nothing

/-- The decision of a read mark (R22 step 3): a request is carried out or discarded, and the slip decision is taken only
for an ALIGNED line while the floor is in ACQUIRE or TRACK. -/
def decision (u : LineSetup) (aligned steered : Bool) (t : Store) : Decision :=
  match aligned, t.request with
  | true, some c => .recentre c
  | true, none => if steered then slipDecision u t (fillOf t.w t.n) else .nothing
  | false, _ => .nothing

/-- The one cell whose fill falls in 126..161 (R28). -/
def recentred (w : Fin 288) : Fin 8 :=
  (([0, 1, 2, 3, 4, 5, 6, 7] : List (Fin 8)).find? fun n => decide (126 ≤ fillOf w n) && decide (fillOf w n ≤ 161)).getD 0

/-- The read cell a decision leaves, before the hand-over (R24, R25, R28). -/
def decidedCell (t : Store) : Decision → Fin 8
  | .slipRepeat => t.n - 1
  | .slipDelete => t.n + 1
  | .recentre _ => recentred t.w
  | _ => t.n

/-- The log record of a decision, if it makes one (R26, R28). -/
def Decision.record : Decision → Option RecordKind
  | .slipRepeat => some .slipRepeat
  | .slipDelete => some .slipDelete
  | .recentre .aligned => some .realignAligned
  | .recentre .jump => some .realignJump
  | _ => none

/-- A decision that makes a slip. -/
def Decision.slips : Decision → Bool
  | .slipRepeat => true
  | .slipDelete => true
  | _ => false

/-- The store after the decision, before the hand-over: the read cell, the pending flags, the request, the slip counts and
the current fill (R22 to R26, R28). -/
def Store.decided (t : Store) (d : Decision) : Store :=
  { t with
    n := decidedCell t d
    repeatPending := d == .pendRepeat
    deletePending := d == .pendDelete
    request := none
    slipTotal := if d.slips then bump 65535 t.slipTotal else t.slipTotal
    epochSlips := if d.slips then bump 255 t.epochSlips else t.epochSlips
    fill := fillOf t.w (decidedCell t d) }

/-! ### The framer (R30 to R36) -/

/-- The outgoing frame carries traffic (R31). -/
def carriesTraffic (steered enable : Bool) (x : Line) (cell : Fin 8) : Bool :=
  steered && enable && x.lrx.align == .aligned && !x.store.excess && x.store.fresh.get cell

/-- The squelch reason of a frame (R31, R38). -/
def squelchReason (enable traffic : Bool) (x : Line) (cell : Fin 8) : Reason :=
  if traffic || !enable then .none
  else if x.lrx.align != .aligned || x.store.excess || !x.store.fresh.get cell then .line
  else .floor

/-- The framer takes a cell: the frame before it ends, its parity is kept, and the next frame begins (R31, R35). -/
def Framer.begin (f : Framer) (cell : Fin 8) (traffic : Bool) (reason : Reason) : Framer :=
  { f with
    inHand := some ⟨cell, traffic⟩
    count := if f.inHand.isSome then f.count + 1 else f.count
    parity := if f.inHand.isSome then some f.parityAcc else f.parity
    reason := reason, squelched := false, octetIndex := none, parityAcc := false }

/-- The framer takes the store's next read cell (R31). -/
def handOver (l : LineNo) (s : State) : State :=
  let x := s.line l
  let t := carriesTraffic s.steered (s.enabled l) x x.store.n
  s.onFramer l fun f => f.begin x.store.n t (squelchReason (s.enabled l) t x x.store.n)

/-- The service octet of the outgoing frame (R33, R34, R35, R38). -/
def outgoingService (s : State) (l : LineNo) : Octet :=
  let f := (s.line l).framer
  serviceOctet s.steer.announced (f.reason == .line) (s.enabled l && f.parity.getD false) f.count.val

/-- Octet `k` of the outgoing frame as it is built when its first bit goes out (R30, R32, R33, R36). -/
def outgoingOctet (s : State) (l : LineNo) (k : Nat) : Octet :=
  let x := s.line l
  match x.framer.inHand with
  | none => 0xFF#8
  | some h =>
    if k = 0 then Config.alignmentWord
    else if k = 1 then outgoingService s l
    else if h.traffic && !x.framer.squelched && !s.floor.cut then x.store.cells.get (Fin.ofNat 288 (36 * h.cell.val + k))
    else 0xFF#8

/-- The outgoing bit whose place is this floor time, if one has (R30). -/
def bitAt (time : Nat) : Option Nat :=
  let b := (9 * time + 1023) / 1024
  if b < 288 ∧ b * 1024 / 9 = time then some b else none

/-- One bit of an outgoing octet sent (R30, R35). -/
def Framer.sendBit (f : Framer) (k : Nat) (octet : Octet) (i : Nat) : Framer :=
  let v := octet.getLsbD i
  { f with octetIndex := some k, octet := octet, out := v, parityAcc := if k < 2 then f.parityAcc else f.parityAcc.xor v }

/-- The framer in a fine-clock period: continuous ones until its first frame, then the bit whose place has come (R30). -/
def frameBit (l : LineNo) (s : State) : State :=
  let f := (s.line l).framer
  if f.inHand.isNone then s
  else
    match bitAt s.floor.time with
    | none => s
    | some b =>
      let k := b / 8
      let octet := if f.octetIndex = some k then f.octet else outgoingOctet s l k
      s.onFramer l fun f => f.sendBit k octet (b % 8)

/-! ### The read mark -/

/-- The boundary just passed is an epoch mark (R64). -/
def State.atEpochMark (s : State) : Bool := s.floor.frame == 0

/-- Step 1 of R22: the ending epoch's slip count is closed, releasing EXCESS when it is 0 (R29). -/
def closeSlips (l : LineNo) (s : State) : State :=
  let s := if (s.line l).store.epochSlips = 0 then release .excess l s else s
  s.onStore l fun t => { t with epochSlips := 0 }

/-- The record of a decision is sent to the slip log (R26, R28, R156). -/
def logDecision (l : LineNo) (d : Decision) (t : Store) (s : State) : State :=
  match d.record with
  | none => s
  | some k =>
    { s with log := s.log.add k l s.floor.epoch (fillOf t.w t.n) (fillOf t.w (decidedCell t d)) (s.line l).lrx.grade }

/-- A slip past the excess limit asserts EXCESS, unless it is masked (R29, R42). -/
def excessTest (l : LineNo) (d : Decision) (s : State) : State :=
  if d.slips && decide (Config.excessLimit < (s.line l).store.epochSlips) && !(s.lineSetup l).maskExcess then raise .excess l s
  else s

/-- Steps 2 to 4 of R22. -/
def decideSlip (l : LineNo) (s : State) : State :=
  let t := (s.line l).store
  let d := decision (s.lineSetup l) (s.isAligned l) s.steered t
  excessTest l d (logDecision l d t (s.onStore l fun t => t.decided d))

/-- The read mark of an enabled line's store (R22). -/
def readMarkEnabled (l : LineNo) (s : State) : State :=
  let s := if s.atEpochMark then closeSlips l s else s
  (handOver l (decideSlip l s)).onStore l fun t => { t with n := t.n + 1 }

/-- READ_MARK (R22): outside LOADING; an OFF line's store stays as it is and its framer begins a fill frame (R38). -/
def execReadMark (l : LineNo) (s : State) : Host.Outcome State Fault Refusal :=
  .next (
    let s := s.took (.readMark l)
    if !s.running then s
    else if s.enabled l then readMarkEnabled l s
    else handOver l s)

end Sys2Proof.Machine
end

