-- ==== Sys2Proof/Machine/Monitors.lean ====
section
/-! DEFINITION. The line monitors' epoch work and the reference selector's epoch choice (chapter 3). -/

namespace Sys2Proof.Machine

/-- A release run after an epoch within its limit: the fourth releases and sets it to 0 (R43, R45, R48). -/
def nextRun (n : Nat) : Nat := if n + 1 = 4 then 0 else n + 1

/-- Step 1: DEGRADED on the handed parity count (R46, R42). -/
def testDegraded (s : State) (l : LineNo) : State :=
  let u := s.lineSetup l
  if u.parityLimit < (s.line l).mon.handedParity then
    if u.maskDegraded then s else raise .degraded l s
  else release .degraded l s

/-- The better of two reference drifts: the smaller magnitude, the earlier line on a tie (R44). -/
def closer (a : Option Int) (d : Option Int) : Option Int :=
  match a, d with
  | none, d => d
  | some x, none => some x
  | some x, some y => if y.natAbs < x.natAbs then some y else some x

/-- Step 2: the reference drift (R44). -/
def referenceDrift (s : State) : Option Int :=
  s.enabledLines.foldl (fun a l => closer a (s.line l).mon.handedDrift) none

/-- WANDER on one line (R43, R42). -/
def testWander (s : State) (l : LineNo) : State :=
  let u := s.lineSetup l
  let m := (s.line l).mon
  let setRun (s : State) (n : Nat) := s.onMon l fun m => { m with wanderRun := n }
  match m.handedDrift, m.prevDrift with
  | some d, some p =>
    if u.wanderLimit < (d - p).natAbs then
      setRun (if u.maskWander then s else raise .wander l s) 0
    else if m.wander then
      let s := setRun s (nextRun m.wanderRun)
      if m.wanderRun + 1 = 4 then release .wander l s else s
    else s
  | _, _ => setRun s 0

/-- DIVERGE on one line against the reference drift (R45, R42). -/
def testDiverge (dmin : Option Int) (s : State) (l : LineNo) : State :=
  let u := s.lineSetup l
  let m := (s.line l).mon
  let setRun (s : State) (n : Nat) := s.onMon l fun m => { m with divergeRun := n }
  match m.handedDrift, dmin with
  | some d, some r =>
    if u.divergeLimit < (d - r).natAbs then
      setRun (if u.maskDiverge then s else raise .diverge l s) 0
    else if m.diverge then
      let s := setRun s (nextRun m.divergeRun)
      if m.divergeRun + 1 = 4 then release .diverge l s else s
    else s
  | _, _ => setRun s 0

/-- The release of CROSSCHECK on one line (R48). -/
def testCrosscheck (s : State) (l : LineNo) : State :=
  let m := (s.line l).mon
  let setRun (s : State) (n : Nat) := s.onMon l fun m => { m with crossReleaseRun := n }
  if m.crosscheck then
    match m.handedDrift with
    | some d =>
      if d.natAbs ≤ Config.crosscheckLimit then
        let s := setRun s (nextRun m.crossReleaseRun)
        if m.crossReleaseRun + 1 = 4 then release .crosscheck l s else s
      else setRun s 0
    | none => setRun s 0
  else s

/-- Step 3 on one line. -/
def testLine (dmin : Option Int) (s : State) (l : LineNo) : State :=
  testCrosscheck (testDiverge dmin (testWander s l) l) l

/-- Step 4 on one line (R41). -/
def keepDrift (s : State) (l : LineNo) : State := s.onMon l fun m => { m with prevDrift := m.handedDrift }

/-- Step 5 on one line (R54): a counter loaded in the same epoch work, whose line was not otherwise qualified before it, is
not counted down. -/
def Monitor.countDown (m : Monitor) (before : Bool) : Monitor :=
  if m.otherwise then
    let wtr := if before then m.wtr - 1 else m.wtr
    { m with wtr := wtr, candidate := wtr == 0 }
  else m

/-- Does line `a` come before line `b` in the selector's order: grade, then priority, then number (R56)? -/
def betterLine (s : State) (a b : LineNo) : Bool :=
  let ga := (s.line a).lrx.grade
  let gb := (s.line b).lrx.grade
  let pa := (s.lineSetup a).priority
  let pb := (s.lineSetup b).priority
  decide (ga < gb) || (ga == gb && (decide (pa < pb) || (pa == pb && decide (a < b))))

/-- The candidate set, ascending (R41 step 6). -/
def candidates (s : State) : List LineNo := s.enabledLines.filter fun l => (s.line l).mon.candidate

/-- The best of the candidates (R56). -/
def bestCandidate (s : State) : Option LineNo :=
  (candidates s).foldl (fun a l => match a with
    | none => some l
    | some b => if betterLine s l b then some l else some b) none

/-- The epoch choice (R56, R57): a selection held gives way only to a strictly better grade. -/
def epochChoice (s : State) : Option LineNo :=
  match s.selected, bestCandidate s with
  | none, b => b
  | some c, none => some c
  | some c, some b => if (s.line b).lrx.grade < (s.line c).lrx.grade then some b else some c

/-- The monitors' epoch work and the selector's choice (R41). -/
def monitorWork (s : State) : State :=
  let before := s
  let s := s.forLines s.enabledLines testDegraded
  let dmin := referenceDrift s
  let s := s.forLines s.enabledLines (testLine dmin)
  let s := s.forLines s.enabledLines keepDrift
  let s := s.forLines s.enabledLines fun s l => s.onMon l fun m => m.countDown (before.line l).mon.otherwise
  { s with selected := epochChoice s }

/-- MONITOR_EPOCH_WORK (R41): outside LOADING. -/
def execMonitorEpochWork (s : State) : Host.Outcome State Fault Refusal :=
  .next (
    let s := s.took .monitorEpochWork
    if s.running then monitorWork s else s)

/-- The monitors' part of a crosscheck verdict on one line: `over` names the line judged OVER, if one was (R47, R42). -/
def takeVerdict (verdict : Option LineNo) (s : State) (l : LineNo) : State :=
  let m := (s.line l).mon
  if verdict = some l ∧ m.crosscheck = false ∧ (s.lineSetup l).maskCrosscheck = false then
    let s := s.onMon l fun m => { m with crossRun := bump 4 m.crossRun }
    if m.crossRun + 1 = 4 then raise .crosscheck l s else s
  else s.onMon l fun m => { m with crossRun := 0 }

end Sys2Proof.Machine
end

