-- ==== Sys2Proof/Machine/Bus.lean ====
section
/-! DEFINITION. The bus interface (chapter 6): the transmit queue, launches, collisions and backoff, jabber, the echo check,
carrier and polarity. What becomes of a received frame is in Bulletins.lean. -/

namespace Sys2Proof.Machine

/-! ### The slots and the pick (R106, R107, R116, R117) -/

/-- Changes the bus interface. -/
def State.onBus (s : State) (f : Bus → Bus) : State := { s with bus := f s.bus }

/-- Changes the steering part. -/
def State.onSteer (s : State) (f : Steer → Steer) : State := { s with steer := f s.steer }

/-- The slot of the bulletin that may go next, in the order of choice; under DUPLICATE only REPORTs (R107, R116). -/
def nextSlot (duplicate : Bool) (b : Bus) : Option Slot :=
  if !duplicate && b.hold.isSome then some .hold
  else if !duplicate && b.timing.isSome then some .timing
  else if !duplicate && b.intro.isSome then some .intro
  else if !b.reports.isEmpty then some .report
  else none

/-- Picks the bulletin to go next, if none is in flight and transmit is enabled (R107). -/
def pick (s : State) : State :=
  if s.bus.flight.isNone && s.bus.enabled then
    s.onBus fun b => { b with flight := (nextSlot s.duplicate b).map fun k => { slot := k } }
  else s

/-- A slot is that of the bulletin in flight. -/
def Bus.flying (b : Bus) (k : Slot) : Bool :=
  match b.flight with
  | some f => f.slot == k
  | none => false

/-- The bulletin in flight is SENDING. -/
def Bus.sending (b : Bus) : Bool :=
  match b.flight with
  | some f => f.phase == .sending
  | none => false

/-- Submissions of TIMING, HOLD and INTRO are taken: not in standalone mode, not under DUPLICATE (R116, R117). -/
def State.takesTimings (s : State) : Bool := !s.standalone && !s.duplicate

/-- The HOLD bulletin with a count (07, section 7.1). -/
def holdBulletin (number count : Nat) : Bulletin := header 3 number 255 ++ [BitVec.ofNat 8 count]

/-- Submission of a HOLD: taken, replacing one that waits, or deferred behind one in flight (R106). -/
def submitHold (count : Nat) (s : State) : State :=
  if !s.takesTimings then s
  else if s.bus.hold.isSome && s.bus.flying .hold then s.onSteer fun t => { t with deferredHold := some count }
  else pick (s.onBus fun b => { b with hold := some (holdBulletin s.number count) })

/-- Submission of a TIMING (R108). -/
def submitTiming (x : Bulletin) (s : State) : State :=
  if !s.takesTimings then s
  else if s.bus.timing.isSome && s.bus.flying .timing then
    if s.bus.sending then s
    else s.onBus fun b => { b with timing := some x, flight := b.flight.map fun f => { f with attempts := 0 } }
  else pick (s.onBus fun b => { b with timing := some x })

/-- Submission of an INTRO: refused while the slot holds one (R106). -/
def submitIntro (x : Bulletin) (s : State) : State :=
  if !s.takesTimings || s.bus.intro.isSome then s
  else pick (s.onBus fun b => { b with intro := some x })

/-- Submission of a REPORT: refused while four are held (R106). -/
def submitReport (x : Bulletin) (s : State) : State :=
  if s.standalone || decide (4 ≤ s.bus.reports.length) then s
  else pick (s.onBus fun b => { b with reports := b.reports ++ [x] })

/-- The floor clock unit is told that the HOLD in flight is gone, and submits its deferred HOLD (R106). -/
def submitDeferred (s : State) : State :=
  match s.steer.deferredHold with
  | none => s
  | some n => submitHold n (s.onSteer fun t => { t with deferredHold := none })

/-- A slot emptied of the bulletin in flight. -/
def Bus.emptied (b : Bus) : Slot → Bus
  | .timing => { b with timing := none }
  | .hold => { b with hold := none }
  | .intro => { b with intro := none }
  | .report => { b with reports := b.reports.drop 1 }

/-- The bulletin in flight leaves its slot and its submitter is told (R109, R112). -/
def endFlight (f : Flight) (s : State) : State :=
  let s := s.onBus fun b => { b.emptied f.slot with flight := none }
  if f.slot = .hold then submitDeferred s else s

/-- The bulletin in a slot; the oldest REPORT in the REPORT slots. -/
def Bus.content (b : Bus) : Slot → Bulletin
  | .timing => b.timing.getD []
  | .hold => b.hold.getD []
  | .intro => b.intro.getD []
  | .report => b.reports.headD []

/-! ### Launch, release, collision (R109 to R112) -/

/-- The fine-clock periods left in the floor frame in progress, the present one among them (R65). -/
def Floor.left (f : Floor) : Nat :=
  match f.kind with
  | .short => 32767 - f.time
  | .normal => 32768 - f.time
  | .long => if f.secondRead then 32768 - f.time else 32769 - f.time

/-- The floor time `n` periods on, within this floor frame and the next (R63, R65; log 9). -/
def Floor.timeAhead (f : Floor) (n : Nat) : Nat :=
  if n < f.left then min 32767 (f.time + n) else n - f.left

/-- The launch stamp: floor time at the first bit time of the start delimiter, 16 bit times after the launch (R77, R101). -/
def launchStamp (s : State) : Nat := s.floor.timeAhead (16 * Config.bitTime)

/-- The stamp written into a TIMING's octets 2 and 3 (R109, R120). -/
def stampTiming (t : Nat) (x : Bulletin) : Bulletin :=
  (x.set 2 (BitVec.ofNat 8 t)).set 3 (BitVec.ofNat 8 (t / 256 % 128))

/-- The launch of the bulletin in flight (R109). -/
def launchFlight (f : Flight) (s : State) : State :=
  s.onBus fun b =>
    { b with
      flight := some { f with phase := .sending, attempts := bump Config.attemptLimit f.attempts, sent := 0, stop := none }
      timing := if f.slot = .timing then b.timing.map (stampTiming (launchStamp s)) else b.timing
      quiet := 0, busy := true, echoResult := none }

/-- LAUNCH (R109): the bulletin in GAP, with transmit enabled. -/
def execLaunch (s : State) : Host.Outcome State Fault Refusal :=
  .next (
    match s.bus.flight with
    | some f => if s.onBusNow && f.phase == .gap && s.bus.enabled then launchFlight f s else s
    | none => s)

/-- The verdict on a launch's echo (R113). -/
def judgeEcho (good : Bool) (s : State) : State :=
  if good then s.onBus fun b => { b with echoMiss := 0, echo := false }
  else
    let live := s.bus.echo || decide (4 ≤ s.bus.echoMiss + 1)
    let s' := s.onBus fun b => { b with echoMiss := bump 4 b.echoMiss, echo := live }
    if live && !s.bus.echo then { s' with flags := { s'.flags with echo := true } } else s'

/-- The echo check at a release (R113): the echo has ended, or is still held, or never came. -/
def echoAtRelease (s : State) : State :=
  match s.bus.echoResult with
  | some good => judgeEcho good (s.onBus fun b => { b with echoResult := none })
  | none =>
    match s.bus.frame with
    | some fr => if fr.ownEcho then s.onBus fun b => { b with echoAwaited := true } else judgeEcho false s
    | none => judgeEcho false s

/-- TRANSMISSION_RELEASE (R109): the bulletin finishes, is echo-checked, and the next is picked. -/
def execTransmissionRelease (s : State) : Host.Outcome State Fault Refusal :=
  .next (
    match s.bus.flight with
    | some f =>
      if f.phase = .sending then pick (endFlight f ((echoAtRelease s).onBus fun b => { b with quiet := 0, busy := true })) else s
    | none => s)

/-- The backoff after attempt `a`, in bit times (R111). -/
def backoffTime (number a : Nat) : Nat := ((number + a) % 12 + 1) * Config.backoffSlot

/-- A drop at the sixteenth collision is counted and latches CONTEND (R112). -/
def contentionDrop (s : State) : State :=
  { s with
    bus := { s.bus with contention := bump 65535 s.bus.contention }
    flags := { s.flags with contend := true } }

/-- The collided bulletin (R110, R112, R116, R119). -/
def collide (f : Flight) (s : State) : State :=
  let s := s.onBus fun b => { b with echoResult := none }
  if f.kept then pick (endFlight f s)
  else if Config.attemptLimit ≤ f.attempts then pick (endFlight f (contentionDrop s))
  else if s.duplicate && f.slot != .report then pick (endFlight f s)
  else s.onBus fun b => { b with flight := some { f with phase := .backoff, backoff := backoffTime s.number f.attempts } }

/-- COLLISION (R110), at the bit time the driver is turned off; the clockwork has taken its going off as a transition (log 31). -/
def execCollision (s : State) : Host.Outcome State Fault Refusal :=
  .next (
    match s.bus.flight with
    | some f => if f.phase = .sending then collide f s else s
    | none => s)

/-- BACKOFF_EXPIRY (R111). -/
def execBackoffExpiry (s : State) : Host.Outcome State Fault Refusal :=
  .next (
    match s.bus.flight with
    | some f =>
      if f.phase = .backoff then s.onBus fun b => { b with flight := some { f with phase := .gap, backoff := 0 } } else s
    | none => s)

/-! ### Jabber (R114, R115) -/

/-- The jabber cut: transmit disabled, JABBER and its flag, the bulletin in flight dropped (R114). That the driver's going off is no
transition for the quiet count (R103) is the model's choice (DESIGN CHOICE, log 31). -/
def jabberCut (s : State) : State :=
  let s := s.onBus fun b =>
    { b with driveRun := Config.jabberRun, enabled := false, jabber := true, marksSinceCut := 0, echoResult := none }
  let s := { s with flags := { s.flags with jabber := true } }
  match s.bus.flight with
  | some f => endFlight f s
  | none => s

/-- JABBER_CUTOFF (R114): the limit test is not made while JABBER is live. -/
def execJabberCutoff (s : State) : Host.Outcome State Fault Refusal :=
  .next (if s.onBusNow && !s.bus.jabber then jabberCut s else s)

/-- JABBER_REEXAMINATION (R115): the drive sense low releases JABBER. -/
def execJabberReexamination (s : State) : Host.Outcome State Fault Refusal :=
  .next (
    let s := s.took .jabberReexamination
    if s.onBusNow && s.bus.jabber && !s.pins.driveSense then
      pick (s.onBus fun b => { b with jabber := false, enabled := true, driveRun := 0 })
    else s)

/-! ### Reception up to the frame's end (R103 to R105) -/

/-- The generation that goes with a stamp taken now: until a jump's shift is made, floor time is unshifted and carries the
old one (R71). -/
def Floor.stampGeneration (f : Floor) : Nat := if f.shift.isSome then f.unshifted else f.generation

/-- What is noted of a bit time that begins now (R71, R78, R104). -/
def State.markNow (s : State) : Mark := ⟨s.floor.time, s.floor.stampGeneration, s.bus.sending⟩

/-- The start delimiter that the bit times recovered from the pair hold (R101, R105). -/
def Bus.delimiter (b : Bus) : Option Delimiter := delimiterIn b.inverted (b.recovery.recent.map BitTime.halves)

/-- What was noted at the first bit time of the delimiter now recognised: where the bit times recovered from the pair hold a
normal delimiter, at the first of them; otherwise the command stands at that bit time itself (R78; log 8). -/
def State.delimiterMark (s : State) : Mark :=
  match s.bus.delimiter, s.bus.recovery.recent with
  | some .normal, b :: _ => b.mark
  | _, _ => s.markNow

/-- The bit times of a delimiter that has been taken are spent. -/
def Recovery.spent (r : Recovery) : Recovery := { r with recent := [] }

/-- START_DELIMITER (R104, R105, R78): a frame opens with the stamp, the generation and the own-echo mark of the delimiter's
first bit time. -/
def execStartDelimiter (s : State) : Host.Outcome State Fault Refusal :=
  .next (
    if s.onBusNow && !s.bus.ignoring && s.bus.frame.isNone then
      s.onBus fun b =>
        { b with
          invertedRun := 0, quiet := 0, busy := true, recovery := b.recovery.spent
          frame := some
            { stamp := s.delimiterMark.stamp, generation := s.delimiterMark.generation, ownEcho := s.delimiterMark.own } }
    else s)

/-- INVERTED_DELIMITER (R105): the fourth in a row turns the polarity; the frame is ignored. -/
def execInvertedDelimiter (s : State) : Host.Outcome State Fault Refusal :=
  .next (
    if s.onBusNow && !s.bus.ignoring && s.bus.frame.isNone then
      s.onBus fun b =>
        { b with
          quiet := 0, busy := true, ignoring := true, recovery := b.recovery.spent
          invertedRun := if b.invertedRun + 1 = 4 then 0 else b.invertedRun + 1
          inverted := if b.invertedRun + 1 = 4 then !b.inverted else b.inverted }
    else s)

/-! ### The slots at DUPLICATE and RESTART (R116, R119) -/

/-- A slot's content after it is emptied of all but a bulletin in SENDING. -/
def keepSending (b : Bus) (k : Slot) (x : Option Bulletin) : Option Bulletin :=
  if b.sending && b.flying k then x else none

/-- The bulletin in flight, where it is in SENDING. -/
def Bus.flightSending (b : Bus) : Option Flight := b.flight.filter fun f => f.phase == .sending

/-- DUPLICATE asserted at the bus interface: TIMING, HOLD and INTRO are emptied; a REPORT in flight is kept (R116). -/
def Bus.silenced (b : Bus) : Bus :=
  { b with
    timing := keepSending b .timing b.timing
    hold := keepSending b .hold b.hold
    intro := keepSending b .intro b.intro
    flight := if b.flying .report then b.flight else b.flightSending }

/-- RESTART at the bus interface: every slot emptied but for a bulletin in SENDING, which is marked (R119). -/
def Bus.restarted (b : Bus) : Bus :=
  { b with
    timing := keepSending b .timing b.timing
    hold := keepSending b .hold b.hold
    intro := keepSending b .intro b.intro
    reports := if b.sending && b.flying .report then b.reports.take 1 else []
    flight := b.flightSending.map fun f => { f with kept := true } }

/-- DUPLICATE is asserted, with its flag, and its effects at the bus interface and the floor clock unit (R116, R152). -/
def assertDuplicate (s : State) : State :=
  if s.duplicate then s
  else
    pick { s with
      duplicate := true
      flags := { s.flags with duplicate := true }
      steer := { s.steer with deferredHold := none }
      bus := s.bus.silenced }

end Sys2Proof.Machine
end

