-- ==== Sys2Proof/Machine/Peers.lean ====
section
/-! DEFINITION. The peer table (chapter 8): the service of TIMING, INTRO and HOLD bulletins, and the bulletin unit's epoch
work. -/

namespace Sys2Proof.Machine

/-- A bulletin may enter service: the part runs and no INQUIRY is in service (R126). -/
def State.serves (s : State) : Bool := s.running && s.service.isNone

/-- The head of the receive queue, when it may be served: no RESTART that came before it waits (R126; log 37). -/
def servable (s : State) : Option RxEntry :=
  if s.serves && s.restartsWaiting == 0 then s.queue.head? else none

/-- The head of the receive queue, if its kind is `k`. -/
def headOfKind (s : State) (k : Nat) : Option RxEntry := (servable s).filter fun e => kindOf e.octets == k

/-- The entry leaves the queue as its service completes (R126). -/
def State.popped (s : State) : State := { s with queue := s.queue.drop 1 }

/-- A source number as a position of the table; R122 queues no other. -/
def peerOf (n : Nat) : PeerNo := Fin.ofNat 12 n

/-- A new entry for an ABSENT position (R139). -/
def newPeer (own code : Octet) (generation : Nat) : Peer :=
  { state := if code = own then .joining else .mismatched, profile := code, generation := generation }

/-- The profile check of an entry that is not ABSENT (R141). -/
def profileCheck (own code : Octet) (generation : Nat) (e : Peer) : Peer :=
  let e := { e with profile := code }
  match e.state with
  | .absent => e
  | .mismatched => if code = own then { e with state := .joining, firstMark := false } else e
  | _ =>
    if code = own then e
    else { e with state := .mismatched, sum := 0, count := 0, generation := generation, hold := 0, firstMark := false }

/-- The entry a TIMING or an INTRO is served for: brought in where it was ABSENT, checked otherwise (R139, R141). -/
def entryFor (own code : Octet) (generation : Nat) (e : Peer) : Peer :=
  if e.state = .absent then newPeer own code generation else profileCheck own code generation e

/-- The sequence gap (R144). -/
def seqGap (new last : Nat) : Nat := (new + 511 - last) % 256

/-- Sequence tracking (R144). -/
def trackSequence (new : Nat) (e : Peer) : Peer :=
  match e.lastSeq with
  | none => { e with lastSeq := some new }
  | some last => { e with lastSeq := some new, missed := min 255 (e.missed + seqGap new last) }

/-- Step 5 of R142 with R143: `since` is the epochs since TIMING as they stood before this one. -/
def timingState (since : Nat) (e : Peer) : Peer :=
  match e.state with
  | .joining =>
    if e.firstMark then
      if since ≤ 1 then { e with state := .active, firstMark := false } else e
    else { e with firstMark := true }
  | .stale => { e with state := .active }
  | _ => e

/-- The sample of a TIMING (R78, R146). -/
def sampleOf (arrival launch delay : Nat) : Int := wrap ((arrival : Int) - launch - delay)

/-- A sample accumulated, where the arrival's generation is the one standing (R146). -/
def accumulate (arrivalGen standing : Nat) (x : Int) (e : Peer) : Peer :=
  if arrivalGen = standing then
    let e := if e.generation = standing then e else { e with sum := 0, count := 0, generation := standing }
    if e.count < 255 then { e with sum := e.sum + x, count := e.count + 1 } else e
  else e

/-- The service of a TIMING on its entry (R142). -/
def timingServed (own : Octet) (standing delay : Nat) (q : RxEntry) (e : Peer) : Peer :=
  let o := q.octets
  let e := entryFor own (o.getD 6 0#8) standing e
  let since := e.sinceTiming
  let e := { e with
    sinceAny := 0, sinceTiming := 0, announced := some (announcedOf o), urgent := flagAt o 5 2, nonurgent := flagAt o 5 3 }
  let e := timingState since (trackSequence (octetAt o 7) e)
  if e.state = .mismatched then e
  else accumulate q.generation standing (sampleOf q.stamp (launchStampOf o) delay) e

/-- An INTRO on an ACTIVE or STALE entry: the sender has restarted (R148). -/
def introRestart (e : Peer) : Peer :=
  if e.state = .active ∨ e.state = .stale then { e with state := .joining, firstMark := false } else e

/-- The service of an INTRO on its entry (R147, R148). -/
def introServed (own : Octet) (standing : Nat) (o : List Octet) (e : Peer) : Peer :=
  let e' := { entryFor own (o.getD 2 0#8) standing e with sinceAny := 0 }
  if flagAt o 4 0 ∨ e.state = .absent then e' else introRestart e'

/-- The service of a HOLD on its entry (R149, R139). -/
def holdServed (n : Nat) (e : Peer) : Peer :=
  match e.state with
  | .absent => e
  | .mismatched => { e with sinceAny := 0 }
  | _ => { e with sinceAny := 0, hold := if n = 0 then 0 else max e.hold n }

/-- The INTRO bulletin (07, section 7.1; R133). -/
def introBulletin (number : Nat) (profile : Octet) (interval : Nat) (answer : Bool) : Bulletin :=
  header 2 number 255 ++ [profile, BitVec.ofNat 8 interval, BitVec.ofNat 8 answer.toNat]

/-- This station's INTRO. -/
def State.introOf (s : State) (answer : Bool) : Bulletin := introBulletin s.number s.setup.profile s.setup.intervalCode answer

/-- Replaces one entry and latches PROFILE when it has just become live (R141). -/
def State.putPeer (s : State) (p : PeerNo) (e : Peer) : State := latchProfile s.peers (s.setPeer p e)

/-- SERVE_TIMING (R142). -/
def execServeTiming (s : State) : Host.Outcome State Fault Refusal :=
  .next (
    match headOfKind s 1 with
    | none => s
    | some q =>
      let p := peerOf (sourceOf q.octets)
      s.popped.putPeer p (timingServed s.setup.profile s.floor.generation s.setup.delayComp q (s.peer p)))

/-- SERVE_INTRO (R147): a non-answer INTRO of a new entry is answered (R148). -/
def execServeIntro (s : State) : Host.Outcome State Fault Refusal :=
  .next (
    match headOfKind s 2 with
    | none => s
    | some q =>
      let p := peerOf (sourceOf q.octets)
      let e := s.peer p
      let s' := s.popped.putPeer p (introServed s.setup.profile s.floor.generation q.octets e)
      if e.state = .absent ∧ flagAt q.octets 4 0 = false then submitIntro (s'.introOf true) s' else s')

/-- SERVE_HOLD (R149). -/
def execServeHold (s : State) : Host.Outcome State Fault Refusal :=
  .next (
    match headOfKind s 3 with
    | none => s
    | some q =>
      let p := peerOf (sourceOf q.octets)
      s.popped.setPeer p (holdServed (octetAt q.octets 2) (s.peer p)))

/-! ### The epoch work (R145) -/

/-- Ageing (R140). -/
def agePeer (e : Peer) : Peer :=
  if e.state = .absent then e
  else
    let e := { e with sinceAny := bump 255 e.sinceAny, sinceTiming := bump 255 e.sinceTiming }
    if 16 ≤ e.sinceAny then {}
    else if e.state = .active ∧ 2 ≤ e.sinceTiming then { e with state := .stale }
    else e

/-- An entry as handed (R145 step 2). -/
def snapOf (own : Octet) (e : Peer) : PeerSnap :=
  if e.state = .absent then {}
  else
    { state := e.state, announced := e.announced, profileMatches := e.profile == own, sum := e.sum, count := e.count,
      generation := e.generation }

/-- The accumulators reset and the hold counted down (R145 steps 3 and 4, R151). -/
def afterHandOver (generation : Nat) (e : Peer) : Peer :=
  if e.state = .absent then e
  else { e with sum := 0, count := 0, generation := generation, hold := e.hold - 1 }

/-- The snapshot of the table. -/
def snapshotOf (own : Octet) (ps : Vector Peer 12) : Vector PeerSnap 12 :=
  allPeers.foldl (fun v (p : PeerNo) => v.set p (snapOf own (ps.get p))) (Vector.replicate 12 {})

/-- The bulletin unit's epoch work, with the floor clock unit's taking of it (R145, R81). -/
def peerEpochWork (s : State) : State :=
  let aged := mapPeers agePeer s.peers
  { s with
    peers := mapPeers (afterHandOver s.floor.generation) aged
    steer := { s.steer with
      snapshot := snapshotOf s.setup.profile aged
      peerHold := aged.toList.any fun e => decide (0 < e.hold) } }

end Sys2Proof.Machine
end

