-- ==== Sys2Proof/Machine/Steering.lean ====
section
/-! DEFINITION. The steering computation (chapter 5), the immediate fallback, and the floor clock unit's epoch work (R67). -/

namespace Sys2Proof.Machine

/-! ### Terms, sources and the role decision (R82 to R86) -/

/-- A peer term (R82). -/
def peerTerm (generation : Nat) (p : PeerSnap) : Option Int :=
  if 0 < p.count ∧ p.generation = generation then some (roundDiv p.sum p.count) else none

/-- The grade a source peer announces; nothing for a peer that is no source (R85). -/
def sourceGrade (p : PeerSnap) : Option Nat :=
  match p.announced with
  | some a =>
    if p.state = .active ∧ p.profileMatches = true ∧ a.role ≠ .following ∧ 1 ≤ a.grade ∧ a.grade ≤ 5 then some a.grade else none
  | none => none

/-- The lower of two grades, where there are any. -/
def bestOf (a b : Option Nat) : Option Nat :=
  match a, b with
  | none, b => b
  | a, none => a
  | some x, some y => some (min x y)

/-- The best grade any source peer announces, G_p (R85). -/
def bestPeer (ps : Vector PeerSnap 12) : Option Nat := ps.toList.foldl (fun a p => bestOf a (sourceGrade p)) none

/-- The fallback grade (R76). -/
def fallbackGrade (u : Setup) (t : Steer) : Nat :=
  if t.historyValid && decide (t.holdAge ≤ u.holdoverLimit * 256) then 4 else 5

/-- The last two rows of the role table (R86). -/
def ownLead (fallback : Nat) : Role × Nat := if fallback = 4 then (.holding, 4) else (.free, 5)

/-- Role and leading grade from the selected line's grade, G_p and the fallback grade (R86). -/
def decideRole (line peer : Option Nat) (fallback : Nat) : Role × Nat :=
  match line, peer with
  | some g, none => (.anchored, g)
  | some g, some p => if g ≤ p then (.anchored, g) else if p < fallback then (.following, p) else ownLead fallback
  | none, some p => if p < fallback then (.following, p) else ownLead fallback
  | none, none => ownLead fallback

/-- The configured weight of a grade; that of grade 6 is 0 (05, section 5.1). -/
def Setup.weight (u : Setup) (g : Nat) : Nat :=
  match g with
  | 1 => u.weight1
  | 2 => u.weight2
  | 3 => u.weight3
  | 4 => u.weight4
  | 5 => u.weight5
  | _ => 0

/-- The terms of the source peers that announce the leading grade (R91). -/
def peerTerms (generation lead : Nat) (ps : Vector PeerSnap 12) : List Int :=
  ps.toList.filterMap fun p => if sourceGrade p = some lead then peerTerm generation p else none

/-- The combined error of peer terms of weight `w` and an anchor term of `gain` times that weight (R91, R92). -/
def combine (w gain : Nat) (peers : List Int) (anchor : Option Int) : Option Int :=
  let total := w * peers.length + (if anchor.isSome then w * gain else 0)
  if total = 0 then none else some (roundDiv (w * peers.sum + w * gain * anchor.getD 0) total)

/-- The peer mean, without the anchor term (R97). -/
def peerMean (w : Nat) (peers : List Int) : Option Int := combine w 0 peers none

/-- The holdover value: the ring's mean truncated toward zero (R75). -/
def ringMean (ring : List Int) : Int := ring.sum.tdiv 16

/-! ### Part 2 of the computation: role, offset, holdover, hold (R81, R84, R86, R88, R90) -/

/-- The change of role calls for the own hold and a HOLD (R86). -/
def callsHold (t : Steer) (role : Role) (line : Option LineNo) : Bool :=
  if role = .anchored then t.role != some .anchored || t.anchor != line else t.role == some .anchored

/-- The build-out offset and the anchor, the old role still standing (R84, R97). -/
def anchorStep (role : Role) (line : Option LineNo) (phase : Option Nat) (t : Steer) : Steer :=
  if role = .anchored then
    let moved := t.role != some .anchored || t.anchor != line
    match phase with
    | some p => if moved || t.offset.isNone then { t with anchor := line, offset := some p, recordAnchor := none } else t
    | none => if moved then { t with anchor := line, offset := none, recordAnchor := none } else t
  else if t.role = some .anchored then { t with anchor := none, offset := none, recordAnchor := none }
  else t

/-- The holdover value in use, taken at entry to HOLDING (R90). -/
def holdoverStep (role : Role) (t : Steer) : Steer :=
  if role = .holding then
    if t.role = some .holding then t else { t with holdover := some (ringMean t.ring) }
  else { t with holdover := none }

/-- The integral at entry to HOLDING is 64 H (R90). -/
def holdingIntegral (role : Role) (t : Steer) (i : Int) : Int :=
  if role = .holding ∧ t.role ≠ some .holding then 64 * ringMean t.ring else i

/-- Sets the own hold and submits a HOLD with its count (R88). -/
def setOwnHold (s : State) : State :=
  submitHold s.setup.holdEpochs (s.onSteer fun t => { t with ownHold := s.setup.holdEpochs })

/-- Part 2 as a whole. -/
def roleStep (lead : Role × Nat) (line : Option LineNo) (phase : Option Nat) (s : State) : State :=
  let t := s.steer
  let t' := holdoverStep lead.1 (anchorStep lead.1 line phase t)
  let s' := { s with
    floor := { s.floor with integral := holdingIntegral lead.1 t s.floor.integral }
    steer := { t' with role := some lead.1, leading := some lead.2, announced := lead.2 } }
  if callsHold t lead.1 line then setOwnHold s' else s'

/-! ### Parts 3 and 4: the error, the jump, the lock tests (R70 to R73, R83, R92) -/

/-- The anchor term (R83). -/
def anchorTerm (t : Steer) (phase : Option Nat) : Option Int :=
  match t.role, t.offset, phase with
  | some .anchored, some o, some p => some (wrap ((p : Int) - o))
  | _, _, _ => none

/-- The jump is made (R70). -/
def jumps (u : Setup) (ending : Bool) (e : Option Int) : Bool :=
  ending && (match e with
    | some x => decide (u.jumpThreshold < x.natAbs)
    | none => false)

/-- The epoch counts as locked (R72). -/
def locked (u : Setup) (jump : Bool) (e : Option Int) : Bool :=
  jump || (match e with
    | some x => decide (x.natAbs ≤ u.lockWindow)
    | none => true)

/-- The error is beyond four times the lock window (R73). -/
def unlocked (u : Setup) (e : Option Int) : Bool :=
  match e with
  | some x => decide (4 * u.lockWindow < x.natAbs)
  | none => false

/-- Floor state, lock counter and unlock run after the tests (R70, R72, R73). -/
def lockStep (u : Setup) (jump : Bool) (e : Option Int) (f : Floor) : Floor :=
  if f.state = .track then
    if unlocked u e then
      if f.unlock + 1 = 2 then { f with state := .acquire, lock := 0, unlock := 0 } else { f with unlock := f.unlock + 1 }
    else { f with unlock := 0 }
  else if locked u jump e then
    if f.lock + 1 = 4 then { f with state := .track, lock := 0, unlock := 0 } else { f with state := .acquire, lock := f.lock + 1 }
  else { f with state := .acquire, lock := 0 }

/-- The jump notice at a line: the receiver marks the epoch that began at the mark, and an ALIGNED line's store holds a
recentre request (R16, R27, R71). -/
def jumpNotice (s : State) (l : LineNo) : State :=
  let s' := s.onLrx l fun r => if (.receiverEpochClose l) ∈ s.due then { r with jumpAhead := true } else { r with jumpFlag := true }
  if s.isAligned l then s'.onStore l fun t => { t with request := some .jump } else s'

/-- The floor phase jump (R70, R71, R84). -/
def jumpStep (e : Int) (s : State) : State :=
  let s := { s with
    floor := { s.floor with
      shift := some e, unshifted := s.floor.generation, cut := true, generation := bump Config.max32 s.floor.generation }
    steer := { s.steer with offset := none, recordAnchor := none } }
  s.forLines s.enabledLines jumpNotice

/-! ### Part 5: the loop filter (R93 to R96) -/

/-- The integral is frozen (R95). -/
def frozen (t : Steer) : Bool := decide (0 < t.ownHold) || t.peerHold

/-- F clamped to the pull limit and, in ACQUIRE, to the slew limit (R72, R96). -/
def clampFreq (u : Setup) (st : FloorState) (x : Int) : Int :=
  let x := clamp u.pullLimit x
  if st = .acquire then clamp (1600 * (u.slewCode + 1)) x else x

/-- The integral after its update (R94); `e` is none without a combined error, or at a jump. -/
def nextIntegral (u : Setup) (t : Steer) (e : Option Int) (i : Int) : Int :=
  match e with
  | some x => if t.role = some .holding ∨ frozen t = true then i else clamp (64 * u.pullLimit) (i - 2 ^ u.ki * x)
  | none => i

/-- F before clamping (R96), with P of R93. -/
def nextFreq (u : Setup) (t : Steer) (e : Option Int) (i : Int) : Int :=
  (if t.role = some .holding then t.holdover.getD 0 else i / 64) - 2 ^ u.kp * e.getD 0

/-- The loop filter. -/
def filterStep (u : Setup) (t : Steer) (e : Option Int) (f : Floor) : Floor :=
  let i := nextIntegral u t e f.integral
  { f with integral := i, freq := clampFreq u f.state (nextFreq u t e i) }

/-! ### Part 7: crosscheck (R97, R98) -/

/-- The line judged OVER by this computation, if one is; WITHIN and NONE name no line that counts (R47, R98). -/
def overVerdict (t : Steer) (term mean : Option Int) : Option LineNo :=
  match t.role, term, t.recordAnchor, mean, t.recordMean with
  | some .anchored, some e, some (l, e'), some m, some m' =>
    if t.anchor = some l ∧ Config.crosscheckLimit < ((e - e') - (m - m')).natAbs then some l else none
  | _, _, _, _, _ => none

/-- The record after the computation (R97). -/
def recordStep (term mean : Option Int) (t : Steer) : Steer :=
  { t with
    recordAnchor := match term, t.anchor with
      | some e, some l => if t.offset.isSome then some (l, e) else none
      | _, _ => none
    recordMean := mean }

/-! ### History (R74, R76) -/

/-- The epoch is a traceable-run epoch (R74). -/
def traceable (f : Floor) (t : Steer) : Bool :=
  f.state == .track && (t.role == some .anchored || t.role == some .following)
    && (match t.leading with
      | some g => decide (1 ≤ g) && decide (g ≤ 3)
      | none => false)

/-- A value put into the ring, the oldest removed when it holds 16 (R74). -/
def pushRing (ring : List Int) (x : Int) : List Int := if ring.length < 16 then ring ++ [x] else ring.drop 1 ++ [x]

/-- History and holdover age after a computation (R74, R76). -/
def historyStep (f : Floor) (t : Steer) : Steer :=
  if traceable f t then
    { t with
      runCount := bump 64 t.runCount, historyValid := t.historyValid || decide (64 ≤ t.runCount + 1)
      ring := pushRing t.ring f.freq, holdAge := 0 }
  else { t with runCount := 0, holdAge := bump Config.maxAge t.holdAge }

/-! ### The oscillator (R65) -/

/-- F added to the residue, and the frame begun made short, normal or long. -/
def Floor.addFreq (f : Floor) : Floor :=
  let r := f.residue + f.freq
  if 65536 ≤ r then { f with residue := r - 65536, kind := .short }
  else if r ≤ -65536 then { f with residue := r + 65536, kind := .long }
  else { f with residue := r, kind := .normal }

/-! ### The computation (R81) -/

/-- The selected line's accepted grade (R58). -/
def State.selectedGrade (s : State) : Option Nat := s.selected.map fun l => (s.line l).lrx.grade

/-- The selected line's phase for the ending epoch, where valid (R58). -/
def State.selectedPhase (s : State) : Option Nat := s.selected.bind fun l => (s.line l).mon.handedPhase

/-- The steering computation on the snapshot and the selection that stand. `ending` is the mark that ends the listen
period. -/
def compute (ending : Bool) (s : State) : State :=
  let u := s.setup
  let generation := s.floor.generation
  let lead := decideRole s.selectedGrade (bestPeer s.steer.snapshot) (fallbackGrade u s.steer)
  let phase := s.selectedPhase
  let s := roleStep lead s.selected phase s
  let w := u.weight lead.2
  let peers := peerTerms generation lead.2 s.steer.snapshot
  let term := anchorTerm s.steer phase
  let mean := peerMean w peers
  let e := combine w u.anchorGain peers term
  let jump := jumps u ending e
  let s := { s with floor := lockStep u jump e s.floor }
  let verdict := overVerdict s.steer term mean
  let s := if jump then jumpStep (e.getD 0) s else s
  let s := { s with floor := filterStep u s.steer (if jump then none else e) s.floor }
  let s := s.onSteer fun t => recordStep term mean { t with ownHold := t.ownHold - 1 }
  s.forLines s.enabledLines (takeVerdict verdict)

/-! ### The immediate fallback (R89) -/

/-- The fallback of an ANCHORED unit. -/
def fallback (s : State) : State :=
  let u := s.setup
  let lead := ownLead (fallbackGrade u s.steer)
  let h := ringMean s.steer.ring
  let holds := decide (lead.1 = .holding)
  let i := if holds then 64 * h else s.floor.integral
  setOwnHold { s with
    floor := { s.floor with integral := i, freq := clampFreq u s.floor.state (if holds then h else i / 64) }
    steer := { s.steer with
      role := some lead.1, leading := some lead.2, announced := lead.2, anchor := none, offset := none, recordAnchor := none
      runCount := 0, holdover := if holds then some h else none } }

/-- A selection-lost notice at the unit: only an ANCHORED unit falls back (R89). -/
def takeLostNotice (s : State) : State :=
  let s := { s with lostNotice := none }
  if s.steer.role = some .anchored then fallback s else s

/-! ### The epoch work (R67) -/

/-- A notice sent before the unit takes the hand-over reaches it first (R60); a grade change not yet taken is carried by
the hand-over (R58). -/
def noticesFirst (s : State) : State :=
  let s := if s.lostNotice.isSome then takeLostNotice s else s
  { s with gradeNotice := none }

/-- The unit's work at an epoch mark, steps 3 to 6 (R67, R69). -/
def epochSteps (s : State) : State :=
  if s.floor.state = .start then
    let s := { s with floor := { s.floor with listen := bump 4 s.floor.listen } }
    if s.floor.listen < 4 then
      s.onSteer fun t => { t with holdAge := bump Config.maxAge t.holdAge }
    else
      let s := compute true s
      { s with floor := { s.floor with listenEnded := true }, steer := historyStep s.floor s.steer }
  else
    let s := compute false s
    s.onSteer (historyStep s.floor)

/-- The unit's epoch work (R67). -/
def epochWork (s : State) : State :=
  let s := epochSteps (peerEpochWork (noticesFirst s))
  { s with floor := { s.floor.addFreq with epochFirst := true } }

/-- EPOCH_MARK (R67): outside LOADING. -/
def execEpochMark (s : State) : Host.Outcome State Fault Refusal :=
  .next (
    let s := s.took .epochMark
    if s.running then epochWork s else s)

/-- SELECTION_LOST_NOTICE (R89): the fallback is made whatever line the notice names. -/
def execSelectionLostNotice (_l : LineNo) (s : State) : Host.Outcome State Fault Refusal :=
  .next (takeLostNotice s)

/-- GRADE_CHANGE_NOTICE (R87): an ANCHORED unit takes the grade at once. A change to grade 6 comes as a lost selection. -/
def execGradeChangeNotice (_l : LineNo) (grade : Nat) (s : State) : Host.Outcome State Fault Refusal :=
  .next (
    let s := { s with gradeNotice := none }
    if s.steer.role = some .anchored ∧ 1 ≤ grade ∧ grade ≤ 5 then
      s.onSteer fun t => { t with leading := some grade, announced := grade }
    else s)

end Sys2Proof.Machine
end

