-- ==== Sys2Proof/Machine/Bulletins.lean ====
section
/-! DEFINITION. The bulletin unit (chapters 7 and 9): acceptance, sorting and queueing of received frames, the building of
REPORT bulletins, and CLEAR. -/

namespace Sys2Proof.Machine

/-! ### Acceptance (R121 to R125) -/

/-- The lengths, check included, that match a kind (R121). -/
def lengthMatches (octets : List Octet) : Bool :=
  let n := octets.length
  match kindOf octets with
  | 1 => decide (11 ≤ n) && decide (octetAt octets 8 ≤ 16) && n == 11 + 2 * octetAt octets 8
  | 2 => n == 7
  | 3 => n == 5
  | 4 => n == 7
  | 5 => decide (7 ≤ n) && decide (n ≤ 55)
  | 6 => n == 4
  | 7 => n == 4
  | _ => false

/-- A kind of chapter 7: 1 to 7. -/
def kindKnown (octets : List Octet) : Bool := decide (1 ≤ kindOf octets) && decide (kindOf octets ≤ 7)

/-- What acceptance makes of a frame (R121). -/
inductive Verdict where
  | crcError
  | kindError
  | lengthError
  | accepted
  deriving DecidableEq, Repr

/-- The four tests, in order; `good` is the frame's mark of good framing (R121). -/
def accept (good : Bool) (octets : List Octet) : Verdict :=
  if !good || !checkGood octets then .crcError
  else if !kindKnown octets then .kindError
  else if !lengthMatches octets then .lengthError
  else .accepted

/-- What sorting makes of an accepted bulletin (R122). -/
inductive Sorted where
  | queued
  | duplicate
  | misdirected
  | ignored
  deriving DecidableEq, Repr

/-- Sorting by kind, source and destination (R122). -/
def sortBulletin (number : Nat) (octets : List Octet) : Sorted :=
  let source := sourceOf octets
  let kind := kindOf octets
  if kind ≤ 3 then
    if source = number then .duplicate else if 12 ≤ source then .ignored else .queued
  else if kind = 5 then
    if source = number then .duplicate else .ignored
  else if source < 12 then .misdirected
  else if destinationOf octets = number ∨ destinationOf octets = 255 then .queued
  else .ignored

/-- A counter of R124 changed. -/
def State.onCounters (s : State) (f : Counters → Counters) : State := { s with counters := f s.counters }

/-- A bulletin joins the tail of the receive queue; a full queue drops it and counts OVERFLOW (R125). -/
def enqueue (e : RxEntry) (s : State) : State :=
  if s.queue.length < 8 then { s with queue := s.queue ++ [e] }
  else s.onCounters fun c => { c with overflow := bump 65535 c.overflow }

/-- A frame handed to the bulletin unit (R121, R122). -/
def takeFrame (good : Bool) (f : RxFrame) (s : State) : State :=
  match accept good f.octets with
  | .crcError => s.onCounters fun c => { c with crc := bump 65535 c.crc }
  | .kindError => s.onCounters fun c => { c with kind := bump 65535 c.kind }
  | .lengthError => s.onCounters fun c => { c with length := bump 65535 c.length }
  | .accepted =>
    match sortBulletin s.number f.octets with
    | .queued => enqueue ⟨f.octets, f.stamp, f.generation⟩ s
    | .duplicate => assertDuplicate s
    | .misdirected => s.onCounters fun c => { c with misdirect := bump 65535 c.misdirect }
    | .ignored => s

/-- An own echo ends: it is judged now where its launch is released, and kept for the release where not (R113). -/
def takeEcho (good : Bool) (s : State) : State :=
  if s.bus.echoAwaited then judgeEcho good (s.onBus fun b => { b with echoAwaited := false })
  else s.onBus fun b => { b with echoResult := some good }

/-- A frame in reception has ended (R104, R113, R121). -/
def frameEnded (f : RxFrame) (good : Bool) (s : State) : State :=
  let s := s.onBus fun b => { b with frame := none }
  if f.ownEcho then takeEcho (good && checkGood f.octets) s else takeFrame good f s

/-- FRAME_END (R104, R121): the bit times are received; a frame they do not end stays in reception. After a 65th octet the
pair is ignored until the carrier is idle. -/
def execFrameEnd (samples : List (Bool × Bool)) (s : State) : Host.Outcome State Fault Refusal :=
  .next (
    match s.bus.frame with
    | none => s
    | some f =>
      match receive s.bus.inverted f samples with
      | .going f' => s.onBus fun b => { b with frame := some f' }
      | .ended f' good tooLong => frameEnded f' good (s.onBus fun b => { b with ignoring := b.ignoring || tooLong }))

/-- CARRIER_IDLE (R103, R104): the carrier is idle, the pair is listened to again, and a frame in reception ends broken. -/
def execCarrierIdle (s : State) : Host.Outcome State Fault Refusal :=
  .next (
    if s.onBusNow then
      let s' := s.onBus fun b => { b with quiet := max Config.idleQuiet b.quiet, busy := false, ignoring := false }
      match s.bus.frame with
      | some f => frameEnded f false s'
      | none => s'
    else s)

/-! ### REPORT items (R160 to R163; 07, section 7.1) -/

/-- A Bool as a field's value. -/
def flagValue (b : Bool) : Nat := b.toNat

/-- The fields of an item moved to where it starts. -/
def shiftFields (first : Nat) (fs : List Field) : List Field := fs.map fun f => { f with pos := f.pos + first }

/-- The code of a record's kind and cause: kind bits 1..0, cause bits 3..2. -/
def recordCode : RecordKind → Nat
  | .slipRepeat => 0
  | .slipDelete => 1
  | .realignAligned => 2 + 4 * 1
  | .realignJump => 2 + 4 * 2

/-- A LOG item. -/
def logItem (r : Record) : List Field :=
  [⟨0, 16, r.sequence⟩, ⟨16, 4, recordCode r.kind⟩, ⟨20, 4, r.line.val⟩, ⟨24, 32, r.epoch⟩, ⟨56, 16, r.before⟩, ⟨72, 16, r.after⟩,
   ⟨88, 3, r.grade⟩]

/-- A LOG report's records, MORE and GAP (R160). -/
def logWindow (g : Log) (from_ : Nat) : List Record × Bool × Bool :=
  let n := g.records.length
  let oldest := (g.records.head?.map Record.sequence).getD g.next
  let d := (from_ + 65536 - oldest) % 65536
  let first := if d ≤ n then d else 0
  let rest := g.records.drop first
  (rest.take 4, decide (4 < rest.length), decide (n < d))

/-- The octet that TIMING and LINES give a line first (07, section 7.1). -/
def lineOctet (s : State) (l : LineNo) : Nat :=
  let x := s.line l
  l.val + 16 * x.lrx.align.code + 64 * flagValue x.mon.candidate + 128 * flagValue (s.selected == some l)

/-- A LINES item (R161). -/
def linesItem (s : State) (l : LineNo) : List Field :=
  let x := s.line l
  let g := x.mon.latched
  [⟨0, 8, lineOctet s l⟩, ⟨8, 3, x.lrx.grade⟩,
   ⟨11, 1, flagValue x.lrx.lof⟩, ⟨12, 1, flagValue x.mon.wander⟩, ⟨13, 1, flagValue x.mon.diverge⟩,
   ⟨14, 1, flagValue x.mon.degraded⟩, ⟨15, 1, flagValue x.store.excess⟩, ⟨16, 1, flagValue x.mon.crosscheck⟩,
   ⟨17, 1, flagValue g.lof⟩, ⟨18, 1, flagValue g.wander⟩, ⟨19, 1, flagValue g.diverge⟩, ⟨20, 1, flagValue g.degraded⟩,
   ⟨21, 1, flagValue g.excess⟩, ⟨22, 1, flagValue g.crosscheck⟩,
   ⟨23, 1, x.store.fill / 256⟩, ⟨24, 8, x.store.fill % 256⟩, ⟨32, 16, x.store.slipTotal⟩]

/-- The enabled lines from a first line on (R161). -/
def linesFrom (s : State) (first : Nat) : List LineNo := s.enabledLines.filter fun l => decide (first ≤ l.val)

/-- A PEERS item (R162). -/
def peersItem (s : State) (p : PeerNo) : List Field :=
  let e := s.peer p
  if p.val = s.number then [⟨0, 3, 7⟩]
  else if e.state = .absent then []
  else
    [⟨0, 3, e.state.code⟩,
     ⟨3, 2, (e.announced.map fun a => a.role.code).getD 0⟩, ⟨5, 3, (e.announced.map Announced.grade).getD 0⟩,
     ⟨8, 2, (e.announced.map fun a => a.state.code).getD 0⟩, ⟨10, 1, flagValue e.urgent⟩, ⟨11, 1, flagValue e.nonurgent⟩,
     ⟨16, 8, e.hold⟩, ⟨24, 8, e.missed⟩]

/-- The role's code in the STATION payload. -/
def stationRole : Option Role → Nat
  | none => 0
  | some .anchored => 1
  | some .following => 2
  | some .holding => 3
  | some .free => 4

/-- The holdover value as reported (R120). -/
def reportedHoldover (t : Steer) : Int := if t.ring.length = 16 then ringMean t.ring else 0

/-- The fields of the STATION payload (R163). The selected-line field is 0 while there is no selection (log 36). -/
def stationFields (s : State) : List Field :=
  let f := s.floor
  let t := s.steer
  let b := s.bus
  let g := s.flags
  let c := s.counters
  [⟨0, 2, f.state.code⟩, ⟨2, 3, stationRole t.role⟩, ⟨5, 1, flagValue t.historyValid⟩, ⟨6, 1, flagValue b.inverted⟩,
   ⟨8, 3, t.announced⟩, ⟨11, 3, if t.role.isNone then 0 else t.leading.getD 0⟩,
   ⟨16, 1, flagValue s.duplicate⟩, ⟨17, 1, flagValue b.echo⟩, ⟨18, 1, flagValue b.jabber⟩,
   ⟨19, 1, flagValue (profileLive s.peers)⟩,
   ⟨24, 1, flagValue g.duplicate⟩, ⟨25, 1, flagValue g.echo⟩, ⟨26, 1, flagValue g.jabber⟩, ⟨27, 1, flagValue g.contend⟩,
   ⟨28, 1, flagValue g.profile⟩, ⟨29, 1, flagValue g.config⟩,
   ⟨32, 4, (s.selected.map Fin.val).getD 0⟩, ⟨36, 1, flagValue s.selected.isSome⟩, ⟨37, 1, flagValue t.offset.isSome⟩,
   ⟨40, 8, t.ownHold⟩, ⟨48, 16, twosComplement 16 f.freq⟩, ⟨64, 32, twosComplement 32 f.integral⟩,
   ⟨96, 16, twosComplement 16 (reportedHoldover t)⟩, ⟨112, 16, t.offset.getD 0⟩, ⟨128, 32, f.epoch⟩, ⟨160, 32, f.generation⟩,
   ⟨192, 16, t.holdAge⟩, ⟨208, 8, t.runCount⟩, ⟨216, 8, t.ring.length⟩,
   ⟨224, 16, c.crc⟩, ⟨240, 16, c.length⟩, ⟨256, 16, c.kind⟩, ⟨272, 16, c.overflow⟩, ⟨288, 16, c.misdirect⟩,
   ⟨304, 16, b.contention⟩, ⟨320, 8, s.log.overwrites⟩, ⟨328, 8, s.number⟩, ⟨336, 8, s.setup.profile.toNat⟩]

/-! ### Building a REPORT (R127, R135, R136, R158, R159) -/

/-- The units of a subject (R159): the window, the lines, the entries, the fields. -/
def unitsOf (s : State) (b : Build) : Nat :=
  match b.subject.toNat with
  | 1 => 1
  | 2 => ((linesFrom s b.parameter).take 8).length
  | 3 => 12
  | 4 => (stationFields s).length
  | _ => 0

/-- The fields of unit `k` as they stand (R159). -/
def unitFields (s : State) (b : Build) (k : Nat) : List Field :=
  match b.subject.toNat with
  | 1 => (((logWindow s.log b.parameter).1.zipIdx.map fun p => shiftFields (96 * p.2) (logItem p.1))).flatten
  | 2 => match ((linesFrom s b.parameter).take 8)[k]? with
    | some l => shiftFields (48 * k) (linesItem s l)
    | none => []
  | 3 => shiftFields (32 * k) (peersItem s (Fin.ofNat 12 k))
  | 4 => ((stationFields s)[k]?).toList
  | _ => []

/-- Item count, MORE and GAP as they stand when unit `k` is read (R136, R160, R161). -/
def unitMarks (s : State) (b : Build) : Nat × Bool × Bool :=
  match b.subject.toNat with
  | 1 => ((logWindow s.log b.parameter).1.length, (logWindow s.log b.parameter).2.1, (logWindow s.log b.parameter).2.2)
  | 2 => (((linesFrom s b.parameter).take 8).length, decide (8 < (linesFrom s b.parameter).length), false)
  | 3 => (12, false, false)
  | 4 => (1, false, false)
  | _ => (0, false, false)

/-- Reads the next unit, if one is left (R159): the units are read in ascending place of the payload (log 29). -/
def readUnit (s : State) (b : Build) : Build :=
  if b.unitsDone < unitsOf s b then
    { b with
      unitsDone := b.unitsDone + 1, payload := b.payload ||| packFields (unitFields s b b.unitsDone)
      items := (unitMarks s b).1, more := (unitMarks s b).2.1, gap := (unitMarks s b).2.2 }
  else b

/-- Reads up to `n` further units. -/
def readUnits (s : State) : Nat → Build → Build
  | 0, b => b
  | n + 1, b => readUnits s n (readUnit s b)

/-- Payload octets of one item (R136). -/
def itemLength (subject : Nat) : Nat :=
  match subject with
  | 1 => 12
  | 2 => 6
  | 3 => 4
  | 4 => 48
  | _ => 0

/-- The REPORT bulletin of a finished building (R136). -/
def reportBulletin (s : State) (b : Build) : Bulletin :=
  header 5 s.number b.inquirer.toNat
    ++ [b.subject, BitVec.ofNat 8 (b.more.toNat + 2 * b.gap.toNat + 4 * s.inquiryDropped.toNat), BitVec.ofNat 8 b.items]
    ++ payloadOctets b.payload (b.items * itemLength b.subject.toNat)

/-- The subject of an INQUIRY, octet 2. -/
def subjectOf (e : RxEntry) : Nat := octetAt e.octets 2

/-- The INQUIRY at the head of the queue, if its subject is one of these (R126, R135). -/
def inquiryHead (s : State) (p : Nat → Bool) : Option RxEntry := (headOfKind s 4).filter fun e => p (subjectOf e)

/-- The periods until the submission: 1..16384, a free value (R126). -/
def reportDelay (s : State) : Nat := Config.reportTime s.freeCount % 16384 + 1

/-- The building as it starts. -/
def startBuild (s : State) (e : RxEntry) : Build :=
  { subject := e.octets.getD 2 0#8, parameter := octetAt e.octets 3 + 256 * octetAt e.octets 4
    inquirer := BitVec.ofNat 4 (sourceOf e.octets), delay := reportDelay s }

/-- An INQUIRY enters service: with four REPORTs held it is dropped, otherwise its REPORT is begun (R135, R158). -/
def serveInquiry (p : Nat → Bool) (s : State) : State :=
  match inquiryHead s p with
  | none => s
  | some e =>
    if 4 ≤ s.bus.reports.length then { s.popped with inquiryDropped := true }
    else { s with service := some (startBuild s e), freeCount := s.freeCount + 1 }

/-- INQUIRY_LOG (R160). -/
def execInquiryLog (s : State) : Host.Outcome State Fault Refusal := .next (serveInquiry (fun n => n == 1) s)

/-- INQUIRY_LINES (R161). -/
def execInquiryLines (s : State) : Host.Outcome State Fault Refusal := .next (serveInquiry (fun n => n == 2) s)

/-- INQUIRY_PEERS (R162). -/
def execInquiryPeers (s : State) : Host.Outcome State Fault Refusal := .next (serveInquiry (fun n => n == 3) s)

/-- INQUIRY_STATION (R163). -/
def execInquiryStation (s : State) : Host.Outcome State Fault Refusal := .next (serveInquiry (fun n => n == 4) s)

/-- INQUIRY_UNKNOWN_SUBJECT (R135): a subject other than 1..4. -/
def execInquiryUnknownSubject (s : State) : Host.Outcome State Fault Refusal :=
  .next (serveInquiry (fun n => n == 0 || decide (4 < n)) s)

/-- The units not yet read are read, the REPORT is submitted, the mark is cleared, and the INQUIRY leaves the queue
(R126, R136, R158). -/
def submitBuilt (b : Build) (s : State) : State :=
  let b := readUnits s (unitsOf s b) b
  submitReport (reportBulletin s b) { s.popped with service := none, inquiryDropped := false }

/-- REPORT_SUBMISSION (R136). -/
def execReportSubmission (s : State) : Host.Outcome State Fault Refusal :=
  .next (
    match s.service with
    | some b => submitBuilt b (s.took .reportSubmission)
    | none => s.took .reportSubmission)

/-! ### CLEAR (R137) -/

/-- The latched flags whose condition is not live are cleared (R51, R165). -/
def clearFlags (s : State) : State := clearStationFlags (s.forLines s.enabledLines clearLine)

/-- CLEAR (R137). -/
def execClear (s : State) : Host.Outcome State Fault Refusal :=
  .next (
    match headOfKind s 6 with
    | none => s
    | some _ => clearFlags s.popped)

end Sys2Proof.Machine
end

