-- ==== Sys2Proof/Machine/Startup.lean ====
section
/-! DEFINITION. Start-up, the configuration image, the hand-over into START, and the soft restart (chapter 10). -/

namespace Sys2Proof.Machine

/-! ### Reset (R170, R172) -/

/-- Every block at its power-on value, the part held in reset. What stands outside the part is kept: the queue of commands,
the input pins and the count of free values (log 17). -/
def resetPart (s : State) : State :=
  { State.reset with pending := s.pending, pins := s.pins, freeCount := s.freeCount }

/-- POWER_ON (R170). -/
def execPowerOn (s : State) : Host.Outcome State Fault Refusal := .next (resetPart s)

/-- RESET_PIN_ASSERTION (R170, R172). -/
def execResetPinAssertion (s : State) : Host.Outcome State Fault Refusal := .next (resetPart s)

/-- RESET_PIN_RELEASE (R171, R175, R79): floor time starts from 0, the straps are sampled and the image read begins. -/
def execResetPinRelease (straps : BitVec 4) (s : State) : Host.Outcome State Fault Refusal :=
  .next (
    if s.inReset then
      { s with inReset := false, floor := { s.floor with time := 0 }, loader := { strap := straps } }
    else s)

/-! ### The image (R173, R174) -/

/-- A two-octet field, low octet first. -/
def image16 (img : List Octet) (k : Nat) : Nat := octetAt img k + 256 * octetAt img (k + 1)

/-- A value brought into its legal range (R174). -/
def intoRange (lo hi x : Nat) : Nat := max lo (min hi x)

/-- Octets 14..17 as one value. -/
def image32 (img : List Octet) (k : Nat) : Nat := image16 img k + 65536 * image16 img (k + 2)

/-- The fields of line `l` (R174). -/
def decodeLine (img : List Octet) (l : Nat) : LineSetup :=
  let high := octetAt img (34 + l)
  let anchor := octetAt img (82 + l)
  let parity := octetAt img (98 + l)
  { enable := (image16 img 3).testBit l
    mayAnchor := decide (anchor % 16 ≠ 0)
    priority := if anchor % 16 = 0 then 8 else anchor % 16
    wanderLimit := intoRange 1 255 (octetAt img (50 + l))
    divergeLimit := intoRange 1 255 (octetAt img (66 + l))
    parityLimit := intoRange 1 63 (parity % 64)
    wtrCode := anchor / 16
    slipLow := intoRange 9 135 (octetAt img (18 + l))
    slipHigh := 152 + intoRange 1 127 (high % 128)
    maskWander := (image16 img 114).testBit l
    maskDiverge := (image16 img 116).testBit l
    maskDegraded := parity.testBit 6
    maskExcess := high.testBit 7
    maskCrosscheck := parity.testBit 7 }

/-- The decoded and clamped image (R174). -/
def decodeImage (img : List Octet) : Setup :=
  let packed := image32 img 14
  { profile := img.getD 2 0#8
    holdEpochs := octetAt img 5
    holdoverLimit := intoRange 1 255 (octetAt img 6)
    pullLimit := intoRange 1024 32767 (image16 img 7)
    jumpThreshold := intoRange 64 16383 (image16 img 9)
    lockWindow := intoRange 8 1023 (image16 img 11 % 1024)
    delayComp := image16 img 11 / 1024
    slewCode := octetAt img 13 % 16
    anchorGain := intoRange 1 8 (octetAt img 13 / 16)
    weight1 := packed % 32
    weight2 := packed / 32 % 32
    weight3 := packed / 1024 % 32
    weight4 := packed / 32768 % 32
    weight5 := packed / 1048576 % 32
    kp := packed / 2 ^ 25 % 8
    ki := packed / 2 ^ 28 % 4
    intervalCode := intoRange 0 2 (packed / 2 ^ 30)
    lines := allLines.foldl (fun v (l : LineNo) => v.set l (decodeLine img l.val)) (Vector.replicate 16 {}) }

/-- The signature is 56H 52H (R173). -/
def signatureGood (img : List Octet) : Bool := img.getD 0 0#8 == 0x56#8 && img.getD 1 0#8 == 0x52#8

/-- The configuration an image gives: its fields, or every default where the signature is bad (R173). -/
def configured (img : List Octet) : Setup := if signatureGood img then decodeImage img else {}

/-! ### The hand-over (R176) -/

/-- A line at the hand-over: a disabled one becomes OFF, an enabled one scans with the next bit it receives, a clock edge
being a change from the level that stands now, and the wait is loaded (R1, R18, R61). -/
def startLine (s : State) (l : LineNo) : State :=
  let u := s.lineSetup l
  (s.onLrx l fun r =>
    { r with
      align := if u.enable then .search else .off, edgeWatch := 0, searchBits := 0
      clockSeen := s.pins.lineClock.getLsbD l.val }).onMon l
    fun m => { m with wtr := 16 * u.wtrCode }

/-- The bus interface at the hand-over: it begins to watch the pair from the level that stands now (R118). -/
def Bus.started (b : Bus) (level : Bool) : Bus := { b with lastLevel := level }

/-- Entry to START at the floor clock unit (R69, R99). -/
def enterStart (s : State) : State :=
  { s with
    floor := { s.floor with state := .start, listen := 0, lock := 0, unlock := 0 }
    steer := { s.steer with
      role := none, announced := 6, ownHold := 0, offset := none, anchor := none, holdover := none, recordAnchor := none
      recordMean := none } }

/-- The hand-over into START with the whole image (R173, R174, R176, R166). -/
def handOverStart (img : List Octet) (s : State) : State :=
  let s := { s with
    setup := configured img
    loader := { s.loader with phase := .done, buffer := img, bits := [] }
    flags := { s.flags with config := s.flags.config || !signatureGood img } }
  enterStart ((s.forLines allLines startLine).onBus fun b => b.started s.pins.busLevel)

/-- HAND_OVER_INTO_START (R171, R176): the octets go into the buffer, and the 118th ends the load. -/
def execHandOverIntoStart (octets : List Octet) (s : State) : Host.Outcome State Fault Refusal :=
  .next (
    if !s.inReset && s.loader.phase == .reading then
      let img := (s.loader.buffer ++ octets).take Config.imageLength
      if img.length = Config.imageLength then handOverStart img s
      else { s with loader := { s.loader with buffer := img } }
    else s)

/-! ### The soft restart (R177) -/

/-- The receiver's restart (R19). -/
def Lrx.restart (r : Lrx) : Lrx :=
  { r with
    align := .search, edgeWatch := 0, candidate := none, held := [], scan := [], failed := 0, searchBits := 0, lof := false
    wordWindow := [], gradeRun := {}, farRun := {}, grade := 6, farEnd := true, trafficParity := none, trafficAcc := false
    alignedThroughout := false, accBefore := none, rxCount := 0, rxBits := [] }

/-- The store's restart (R40). -/
def Store.restart (t : Store) : Store :=
  { t with
    fresh := Vector.replicate 8 false, request := none, repeatPending := false, deletePending := false, excess := false }

/-- The monitor's restart (R62). -/
def Monitor.restart (u : LineSetup) (m : Monitor) : Monitor :=
  { m with
    wander := false, diverge := false, degraded := false, crosscheck := false
    wanderRun := 0, divergeRun := 0, crossRun := 0, crossReleaseRun := 0
    otherwise := false, candidate := false, wtr := 16 * u.wtrCode }

/-- One enabled line restarted: receiver, store and framer, monitor (R19, R40, R62). -/
def restartLine (s : State) (l : LineNo) : State :=
  squelch l (((s.onLrx l Lrx.restart).onStore l Store.restart).onMon l (Monitor.restart (s.lineSetup l)))

/-- The floor clock unit's restart (R69, R80, R99). -/
def restartFloor (s : State) : State :=
  (enterStart s).onSteer fun t => { t with historyValid := false, runCount := 0, deferredHold := none }

/-- A received bulletin is a RESTART. -/
def RxEntry.restarts (e : RxEntry) : Bool := kindOf e.octets == 7

/-- The soft restart (R177) at the service of a RESTART with `behind` in the queue behind it and `waiting` others still to be
served: no selection-lost notice is sent (R62), and the queue is emptied (R128, R155); each RESTART among what it held restarts the
station again, at its own service (R138, R177; log 37). -/
def softRestart (behind : List RxEntry) (waiting : Nat) (s : State) : State :=
  let s := { s.forLines s.enabledLines restartLine with selected := none }
  let s := restartFloor s
  { s with
    bus := s.bus.restarted, queue := [], restartsWaiting := waiting + behind.countP RxEntry.restarts
    peers := Vector.replicate 12 {}
    duplicate := false }

/-- RESTART (R138, R177): one that waits, or the head of the queue. -/
def execRestart (s : State) : Host.Outcome State Fault Refusal :=
  .next (
    if s.serves && decide (0 < s.restartsWaiting) then softRestart s.queue (s.restartsWaiting - 1) s
    else
      match headOfKind s 7 with
      | none => s
      | some _ => softRestart (s.queue.drop 1) 0 s)

end Sys2Proof.Machine
end

