-- ==== Sys2Proof/Machine/Clock.lean ====
section
/-! DEFINITION. The clockwork: floor frame boundaries and bulletin marks (R63 to R66, R129 to R133), and what one period of
the fine clock does by itself when no command waits (log 1, log 4). -/

namespace Sys2Proof.Machine

/-! ### The boundary (R63 to R66) -/

/-- The work the boundary makes due, block by block (R64; log 4). -/
def marksDue (s : State) : List Instr :=
  let epoch := s.floor.frame == 0
  (if epoch && s.bus.jabber && decide (2 ≤ s.bus.marksSinceCut) then [.jabberReexamination] else [])
    ++ (if s.running then
        allLines.map Instr.readMark
          ++ (if epoch then s.enabledLines.map Instr.receiverEpochClose ++ [.monitorEpochWork, .epochMark] else [])
          ++ (if s.floor.frame % s.interval = 0 then [.bulletinMark] else [])
      else [])

/-- The counts at a boundary (R64). -/
def Floor.nextFrame (f : Floor) : Floor :=
  let n := (f.frame + 1) % 64
  { f with
    time := 0, secondRead := false, shift := none, cut := false, listenEnded := false
    frame := n, epoch := if n = 0 then bump Config.max32 f.epoch else f.epoch }

/-- F is added at the boundary itself, but at an epoch mark outside LOADING, where the epoch work adds it (R65 to R67). -/
def Floor.boundary (f : Floor) : Floor :=
  let f' := f.nextFrame
  if f'.frame = 0 ∧ f.state ≠ .loading then { f' with kind := .normal } else f'.addFreq

/-- FLOOR_FRAME_BOUNDARY (R63 to R66): the counts advance, F is added, and the marks fall due. -/
def execFloorFrameBoundary (s : State) : Host.Outcome State Fault Refusal :=
  .next (
    let s := s.took .floorFrameBoundary
    if s.inReset then s
    else
      let s := { s with floor := s.floor.boundary }
      let s := if s.floor.frame = 0 && s.bus.jabber then s.onBus fun b => { b with marksSinceCut := bump 2 b.marksSinceCut } else s
      { s with due := s.due ++ marksDue s })

/-! ### The bulletin mark (R64, R129 to R133) -/

/-- A line summary entry (07, section 7.1; R131). -/
def lineSummary (s : State) (l : LineNo) : List Octet :=
  [BitVec.ofNat 8 (lineOctet s l), BitVec.ofNat 8 ((s.line l).lrx.grade % 8 + 8 * flagValue (s.line l).anyLive)]

/-- The line list: every enabled line in the first TIMING after an epoch mark, none otherwise (R131). -/
def listedLines (s : State) : List LineNo := if s.floor.epochFirst then s.enabledLines else []

/-- A TIMING as built; the launch stamp is left open (R129, R130, R131). -/
def timingBulletin (s : State) : Bulletin :=
  let t := s.steer
  header 1 s.number 255
    ++ [0#8, 0#8,
        BitVec.ofNat 8 (64 * (t.role.map Role.code).getD 0 + 8 * (t.announced % 8) + 2 * s.floor.state.code),
        BitVec.ofNat 8 (flagValue s.floor.epochFirst + 2 * flagValue (decide (0 < t.ownHold)) + 4 * flagValue s.urgent
          + 8 * flagValue s.nonurgent + 16 * flagValue s.flags.duplicate),
        s.setup.profile, BitVec.ofNat 8 s.floor.sequence, BitVec.ofNat 8 (listedLines s).length]
    ++ (listedLines s).flatMap (lineSummary s)

/-- A TIMING is built, takes its sequence and is submitted (R129, R130). -/
def sendTiming (s : State) : State :=
  submitTiming (timingBulletin s) { s with floor := { s.floor with sequence := (s.floor.sequence + 1) % 256, epochFirst := false } }

/-- BULLETIN_MARK (R64): an INTRO in START and at the mark that ends the listen period, a TIMING otherwise (R129, R133). -/
def execBulletinMark (s : State) : Host.Outcome State Fault Refusal :=
  .next (
    let s := s.took .bulletinMark
    if s.floor.state = .start ∨ (s.running = true ∧ s.floor.listenEnded = true) then submitIntro (s.introOf false) s
    else if s.steered then sendTiming s
    else s)

/-! ### One fine-clock period (log 1) -/

/-- Commands that have come about join the list. -/
def State.nowDue (s : State) (cs : List Instr) : State := { s with due := s.due ++ cs }

/-- Floor time in the next period: the jump, the short, normal or long end of the frame, or one fu on (R63, R65, R70). -/
def tickFloor (s : State) : State :=
  let f := s.floor
  match f.shift with
  | some e => { s with floor := { f with time := floorMod (1 - e), shift := none } }
  | none =>
    if f.left ≤ 1 then ({ s with floor := { f with time := 0, secondRead := false } }).nowDue [.floorFrameBoundary]
    else if f.time = 32767 then { s with floor := { f with secondRead := true } }
    else { s with floor := { f with time := f.time + 1 } }

/-- The commands a bit of an ALIGNED line brings about: the start of a frame, the ends of octets 0 and 1, each octet (R5,
R7, R9, R14, R20; log 16). `k` counts bits since the entry to ALIGNED; the first frame begins at 272. -/
def alignedEvents (l : LineNo) (k : Nat) (bits : List Bool) : List Instr :=
  if k < 272 then []
  else
    let at_ := (k - 272) % 288
    (if at_ = 0 then [.frameStartStamp l] else [])
      ++ (if bits.length = 8 then
          (if at_ = 7 then [.alignmentWordCheck l (bitsOctet bits)] else [])
            ++ (if at_ = 15 then [.serviceOctetDecode l (bitsOctet bits)] else [])
            ++ [.lineOctetWrite l (bitsOctet bits)]
        else [])

/-- The command that takes a bit in the hunt, by where the hunt stands (R4, R5). -/
def huntCommand (s : State) (l : LineNo) (bits : List Bool) : Instr :=
  if (s.line l).lrx.align = .check then .confirmationPoint l bits
  else if (s.line l).lrx.held.isEmpty then .candidateTaken l bits
  else .candidateServiceOctet l bits

/-- A recovered-clock edge with its bit (R2 to R5; log 16). -/
def lineEdge (l : LineNo) (bit : Bool) (s : State) : State :=
  let r := (s.line l).lrx
  let s := s.onLrx l fun r => { r with edgeWatch := 0 }
  match r.align with
  | .off => s
  | .dark => s.nowDue [.firstClockEdge l bit]
  | .search => s.nowDue [huntCommand s l [bit]]
  | .check => s.nowDue [huntCommand s l [bit]]
  | .aligned =>
    let bits := if r.rxCount < 272 then [] else r.rxBits ++ [bit]
    let s := s.onLrx l fun r =>
      { r with rxCount := if r.rxCount = 559 then 272 else r.rxCount + 1, rxBits := if bits.length = 8 then [] else bits }
    s.nowDue (alignedEvents l r.rxCount bits)

/-- The edge watch of a line without an edge in this period (R2). -/
def watchLine (l : LineNo) (s : State) : State :=
  let r := (s.line l).lrx
  if r.align = .off ∨ r.align = .dark then s
  else
    let s := s.onLrx l fun r => { r with edgeWatch := bump Config.edgeWatchLimit r.edgeWatch }
    if r.edgeWatch + 1 = Config.edgeWatchLimit then s.nowDue [.edgeWatchExpiry l] else s

/-- One line's input in a fine-clock period: an edge of the incoming clock, or none. -/
def tickLine (s : State) (l : LineNo) : State :=
  let clock := s.pins.lineClock.getLsbD l.val
  let edge := clock && !(s.line l).lrx.clockSeen
  let s := s.onLrx l fun r => { r with clockSeen := clock }
  if edge then lineEdge l (s.pins.lineData.getLsbD l.val) s else watchLine l s

/-- A transition on the pair in this period, at the receive path. -/
def pairEdge (s : State) : Bool := s.pins.busLevel != s.bus.lastLevel

/-- The station's own driver changes what it drives in this period: the level of the wire, or it goes off at the end of the bulletin
or at a collision's stop (R101, R110). -/
def driverEdge (s : State) : Bool :=
  match s.bus.flight with
  | some f =>
    let octets := withCheck (s.bus.content f.slot)
    f.phase == .sending && (f.stop == some (f.sent + 1) || wireLevel octets (f.sent + 1) != wireLevel octets f.sent)
  | none => false

/-- A transition for the carrier's count, whatever its source (R103; log 31). -/
def busEdge (s : State) : Bool := pairEdge s || driverEdge s

/-- Where the driver goes off, counted from the launch, once `sent` periods of the bulletin have gone out: the read-back at the
centre of each half-bit driven finds the first mismatch, and the bit time and the next one pass (R110; log 10). -/
def readBack (s : State) (f : Flight) (octets : List Octet) (sent total : Nat) : Option Nat :=
  if f.stop.isNone && sent % 32 == 16 && s.pins.senseLevel != wireLevel octets sent then
    some (min total ((sent / Config.bitTime + 2) * Config.bitTime))
  else f.stop

/-- The bulletin in flight in a fine-clock period: the time on the wire, the read-back, and the end by a collision or by the
release after the end delimiter (R109, R110). -/
def tickSending (s : State) : State :=
  match s.bus.flight with
  | some f =>
    if f.phase = .sending then
      let octets := withCheck (s.bus.content f.slot)
      let sent := f.sent + 1
      let total := Config.bitTime * (26 + 8 * octets.length)
      let stop := readBack s f octets sent total
      let s' := s.onBus fun b => { b with flight := some { f with sent := sent, stop := stop } }
      if stop = some sent then s'.nowDue [.collision]
      else if sent = total then s'.nowDue [.transmissionRelease]
      else s'
    else s
  | none => s

/-! ### The receiver's bit times (R100, R101, R104, R105; log 10) -/

/-- The recovery in a fine-clock period in which no middle transition has been found yet: two transitions one bit time apart,
within a quarter of it, show the second to be a middle one. -/
def Recovery.seek (r : Recovery) (edge : Bool) : Recovery :=
  if edge then
    if r.locked = false ∧ 48 ≤ r.since + 1 ∧ r.since + 1 ≤ 80 then { locked := true, phase := 32, since := 0 } else { since := 0 }
  else { since := bump 81 r.since }

/-- The place in the bit time one period on: a transition within a quarter of a bit time of the middle is put at it. -/
def Recovery.place (r : Recovery) (edge : Bool) : Nat :=
  let p := (r.phase + 1) % Config.bitTime
  if edge ∧ 16 < p ∧ p < 48 then 32 else p

/-- The recovery in a fine-clock period with the bit times found: the beginning of a bit time is noted, and each half is
sampled at its centre. -/
def Recovery.follow (r : Recovery) (level edge : Bool) (now : Mark) : Recovery :=
  let p := r.place edge
  let r := { r with phase := p, since := if edge then 0 else bump 81 r.since }
  if p = 0 then { r with mark := some now, first := none }
  else if p = 16 then { r with first := some level }
  else if p = 48 then
    match r.first, r.mark with
    | some v, some m =>
      { r with first := none, mark := none, recent := (r.recent ++ [({ halves := (v, level), mark := m } : BitTime)]).drop (r.recent.length + 1 - 8) }
    | _, _ => r
  else r

/-- One fine-clock period of the recovery; while the carrier is idle it stands by. -/
def Recovery.next (r : Recovery) (busy level edge : Bool) (now : Mark) : Recovery :=
  if !busy then { since := if edge then 0 else bump 81 r.since }
  else if r.locked then r.follow level edge now
  else r.seek edge

/-- A bit time has just been received. -/
def Recovery.ends (before after : Recovery) : Bool := before.mark.isSome && after.mark.isNone && after.phase == 48

/-- The command a bit time received brings about: it joins the frame in reception, or with the seven before it makes a start
delimiter (R101, R104, R105). -/
def bitTimeCommand (b : Bus) : Option Instr :=
  match b.recovery.recent.getLast? with
  | none => none
  | some x =>
    if b.frame.isSome then some (.frameEnd [x.halves])
    else if b.ignoring then none
    else
      match b.delimiter with
      | some .normal => some .startDelimiter
      | some .inverted => some .invertedDelimiter
      | none => none

/-- The receive path in a fine-clock period. -/
def tickReceive (edge : Bool) (s : State) : State :=
  let r := s.bus.recovery
  let r' := r.next s.bus.busy s.pins.busLevel edge s.markNow
  let s := s.onBus fun b => { b with recovery := r' }
  if r.ends r' then s.nowDue (bitTimeCommand s.bus).toList else s

/-- The end of a bit time for the bulletin in flight: the launch at a quiet count of 28, the backoff (R109, R111). -/
def bitTimeFlight (s : State) : State :=
  match s.bus.flight with
  | some f =>
    if f.phase = .backoff ∧ 0 < f.backoff then
      let s' := s.onBus fun b => { b with flight := some { f with backoff := f.backoff - 1 } }
      if f.backoff = 1 then s'.nowDue [.backoffExpiry] else s'
    else if f.phase = .gap ∧ s.bus.quiet = Config.launchQuiet ∧ s.bus.enabled = true then s.nowDue [.launch]
    else s
  | none => s

/-- The end of a bit time: quiet count, carrier and drive run (R103, R114). The drive-active sense is read once a bit time, in
its last fine-clock period (log 31). -/
def bitTimeEnd (s : State) : State :=
  let b := s.bus
  let quiet := if b.sawEdge then b.quiet else bump Config.launchQuiet b.quiet
  let run := if s.pins.driveSense then bump Config.jabberRun b.driveRun else 0
  let s := s.onBus fun b => { b with quiet := quiet, driveRun := run, sawEdge := false }
  let s := if b.busy && decide (Config.idleQuiet ≤ quiet) then s.nowDue [.carrierIdle] else s
  let s := if run = Config.jabberRun ∧ b.jabber = false then s.nowDue [.jabberCutoff] else s
  bitTimeFlight s

/-- The bus interface in a fine-clock period. -/
def tickBus (s : State) : State :=
  if !s.onBusNow then s
  else
    let edge := busEdge s
    let s := tickReceive (pairEdge s) s
    let s := tickSending s
    let s := s.onBus fun b =>
      { b with
        lastLevel := s.pins.busLevel, bitPhase := (b.bitPhase + 1) % Config.bitTime
        quiet := if edge then 0 else b.quiet, busy := b.busy || edge, sawEdge := b.sawEdge || edge }
    if s.bus.bitPhase = 0 then bitTimeEnd s else s

/-- The image read in a fine-clock period: a bit is sampled in the middle of each SPI period after the three octets sent,
and the load ends with the 968th period (R171; log 24). -/
def tickLoader (s : State) : State :=
  if s.loader.phase = .done then s
  else
    let d := s.loader
    let fu := d.fu + 1
    let bits := if fu % 64 = 32 ∧ 24 ≤ fu / 64 ∧ fu / 64 < 968 then d.bits ++ [s.pins.spiDataIn] else d.bits
    let d' : Loader :=
      if bits.length = 8 then { d with fu := fu, bits := [], buffer := d.buffer ++ [bitsOctetMsb bits] }
      else { d with fu := fu, bits := bits }
    let s := { s with loader := d' }
    if fu = Config.spiLength then s.nowDue [.handOverIntoStart []] else s

/-- The REPORT in building in a fine-clock period: a free number of units is read, and the submission comes at its free
time (R126, R127, R159). -/
def tickService (s : State) : State :=
  match s.service with
  | none => s
  | some b =>
    let b' := readUnits s (Config.unitsRead s.freeCount) { b with age := b.age + 1 }
    let s' := { s with service := some b', freeCount := s.freeCount + 1 }
    if b.age + 1 = b.delay then s'.nowDue [.reportSubmission] else s'

/-- The part's inputs and counts in a fine-clock period. -/
def tickInputs (s : State) : State :=
  if s.running then tickService (tickBus (s.forLines allLines tickLine)) else tickLoader s

/-- The framers' bits of the period that ends (R30): the work of that period, its read marks among it, has been done. -/
def tickFramers (s : State) : State := if s.running then s.forLines allLines fun s l => frameBit l s else s

/-- One fine-clock period of the part: floor time passes to it, and what the period brings is taken in it, so that every stamp
reads the floor time of its own period (R14, R78). Nothing runs while the part is held in reset (R170). -/
def tick (s : State) : State := if s.inReset then s else tickInputs (tickFloor (tickFramers s))

/-! ### The idle step (log 1, log 4) -/

/-- The command that serves the head of the receive queue (R126). -/
def serveCommand (e : RxEntry) : Option Instr :=
  match kindOf e.octets with
  | 1 => some .serveTiming
  | 2 => some .serveIntro
  | 3 => some .serveHold
  | 4 =>
    match subjectOf e with
    | 1 => some .inquiryLog
    | 2 => some .inquiryLines
    | 3 => some .inquiryPeers
    | 4 => some .inquiryStation
    | _ => some .inquiryUnknownSubject
  | 6 => some .clear
  | 7 => some .restart
  | _ => none

/-- The own command that takes the next bulletin into service: a RESTART that waits, or the queue's head (R126; log 37). -/
def nextService (s : State) : Option Instr :=
  if s.serves && decide (0 < s.restartsWaiting) then some .restart else (servable s).bind serveCommand

/-- The part's own command that comes next, if one has come about: a notice, the service of a received bulletin, the oldest of
those that are due. -/
def nextOwn (s : State) : Option Instr :=
  match s.lostNotice, s.gradeNotice, nextService s, s.due with
  | some l, _, _, _ => some (.selectionLostNotice l)
  | none, some (l, g), _, _ => some (.gradeChangeNotice l g)
  | none, none, some c, _ => some c
  | none, none, none, c :: _ => some c
  | none, none, none, [] => none

/-- An event that has come about still stands: a count that has run out has not been started again since by a command that
came before it (a RESTART restarts the edge watch, R19). -/
def stillDue (s : State) : Instr → Bool
  | .edgeWatchExpiry l => (s.line l).lrx.edgeWatch == Config.edgeWatchLimit
  | .carrierIdle => s.bus.busy && decide (Config.idleQuiet ≤ s.bus.quiet)
  | .launch => s.bus.quiet == Config.launchQuiet
  | .jabberCutoff => s.bus.driveRun == Config.jabberRun
  | .backoffExpiry => s.bus.flight.any fun f => f.backoff == 0
  | .transmissionRelease => s.bus.flight.any fun f => f.phase == .sending && f.stop != some f.sent
  | .collision => s.bus.flight.any fun f => f.stop == some f.sent
  | _ => true

/-- A bit of the hunt is taken by where the hunt stands as it is taken. -/
def asItStands (s : State) : Instr → Instr
  | .candidateTaken l bits => huntCommand s l bits
  | .candidateServiceOctet l bits => huntCommand s l bits
  | .confirmationPoint l bits => huntCommand s l bits
  | c => c

/-- What the part does when no command waits: its next own command is put in the queue, or a fine-clock period passes. -/
def idle (s : State) : State :=
  let s := { s with due := s.due.filter (stillDue s) }
  match nextOwn s with
  | some c => { s with pending := [asItStands s c], due := s.due.erase c }
  | none => tick s

/-! ### Output pins (00, Pin summary; R101, R171) -/

/-- What the driver puts on the pair, if it drives (R101). -/
def State.busDriver (s : State) : Option Bool :=
  match s.bus.flight with
  | some f => if f.phase = .sending then wireLevel (withCheck (s.bus.content f.slot)) f.sent else none
  | none => none

/-- The SPI select (R171). -/
def State.spiSelect (s : State) : Bool := !s.inReset && s.loader.phase == .reading

/-- The SPI clock: low, then high, in each of its periods (R171), and low while the part is held in reset (log 24). -/
def State.spiClock (s : State) : Bool := s.spiSelect && decide (32 ≤ s.loader.fu % 64)

/-- The SPI data out: the instruction 03H and the address 0000H, most significant bit first (R171); low while the image is
clocked in and while the part is held in reset (log 24). -/
def State.spiDataOut (s : State) : Bool :=
  s.spiSelect && (s.loader.fu / 64 == 6 || s.loader.fu / 64 == 7)

/-- A retimed output pin in the present period (R30): the bit whose place is the floor time that stands, or the last one. -/
def State.output (s : State) (l : LineNo) : Bool := ((frameBit l s).line l).framer.out

end Sys2Proof.Machine
end

