-- ==== Sys2Proof/Machine/Dispatch.lean ====
section
/-! DEFINITION. One arm for each command: its meaning. -/

namespace Sys2Proof.Machine

/-- The effect of one command on everything but the queue. -/
def exec (i : Instr) (s : State) : Host.Outcome State Fault Refusal :=
  match i with
  | .powerOn => Sys2Proof.Machine.execPowerOn s
  | .resetPinAssertion => Sys2Proof.Machine.execResetPinAssertion s
  | .resetPinRelease straps => Sys2Proof.Machine.execResetPinRelease straps s
  | .handOverIntoStart octets => Sys2Proof.Machine.execHandOverIntoStart octets s
  | .edgeWatchExpiry line => Sys2Proof.Machine.execEdgeWatchExpiry line s
  | .firstClockEdge line bit => Sys2Proof.Machine.execFirstClockEdge line bit s
  | .searchTimerExpiry line bits => Sys2Proof.Machine.execSearchTimerExpiry line bits s
  | .candidateTaken line bits => Sys2Proof.Machine.execCandidateTaken line bits s
  | .candidateServiceOctet line bits => Sys2Proof.Machine.execCandidateServiceOctet line bits s
  | .confirmationPoint line bits => Sys2Proof.Machine.execConfirmationPoint line bits s
  | .frameStartStamp line => Sys2Proof.Machine.execFrameStartStamp line s
  | .alignmentWordCheck line word => Sys2Proof.Machine.execAlignmentWordCheck line word s
  | .serviceOctetDecode line octet => Sys2Proof.Machine.execServiceOctetDecode line octet s
  | .lineOctetWrite line octet => Sys2Proof.Machine.execLineOctetWrite line octet s
  | .floorFrameBoundary => Sys2Proof.Machine.execFloorFrameBoundary s
  | .readMark line => Sys2Proof.Machine.execReadMark line s
  | .receiverEpochClose line => Sys2Proof.Machine.execReceiverEpochClose line s
  | .monitorEpochWork => Sys2Proof.Machine.execMonitorEpochWork s
  | .epochMark => Sys2Proof.Machine.execEpochMark s
  | .bulletinMark => Sys2Proof.Machine.execBulletinMark s
  | .selectionLostNotice line => Sys2Proof.Machine.execSelectionLostNotice line s
  | .gradeChangeNotice line grade => Sys2Proof.Machine.execGradeChangeNotice line grade s
  | .startDelimiter => Sys2Proof.Machine.execStartDelimiter s
  | .invertedDelimiter => Sys2Proof.Machine.execInvertedDelimiter s
  | .frameEnd samples => Sys2Proof.Machine.execFrameEnd samples s
  | .carrierIdle => Sys2Proof.Machine.execCarrierIdle s
  | .launch => Sys2Proof.Machine.execLaunch s
  | .transmissionRelease => Sys2Proof.Machine.execTransmissionRelease s
  | .collision => Sys2Proof.Machine.execCollision s
  | .backoffExpiry => Sys2Proof.Machine.execBackoffExpiry s
  | .jabberCutoff => Sys2Proof.Machine.execJabberCutoff s
  | .jabberReexamination => Sys2Proof.Machine.execJabberReexamination s
  | .serveTiming => Sys2Proof.Machine.execServeTiming s
  | .serveIntro => Sys2Proof.Machine.execServeIntro s
  | .serveHold => Sys2Proof.Machine.execServeHold s
  | .inquiryLog => Sys2Proof.Machine.execInquiryLog s
  | .inquiryLines => Sys2Proof.Machine.execInquiryLines s
  | .inquiryPeers => Sys2Proof.Machine.execInquiryPeers s
  | .inquiryStation => Sys2Proof.Machine.execInquiryStation s
  | .inquiryUnknownSubject => Sys2Proof.Machine.execInquiryUnknownSubject s
  | .reportSubmission => Sys2Proof.Machine.execReportSubmission s
  | .clear => Sys2Proof.Machine.execClear s
  | .restart => Sys2Proof.Machine.execRestart s

end Sys2Proof.Machine
end

