-- ==== Sys2Proof/Safety.lean ====
section
/-! DEFINITION. What claims speak of: the frames of commands (what they leave as it was), and the invariants of a run. -/

namespace Sys2Proof.Machine

/-- The command completes: it answers a next state, of which `P` holds. -/
def Completes (o : Host.Outcome State Fault Refusal) (P : State → Prop) : Prop := ∃ t, o = .next t ∧ P t

/-- A list of commands taken one after the other; nothing where one of them does not answer a next state. -/
def runCommands : List Instr → State → Option State
  | [], s => some s
  | c :: cs, s =>
    match exec c s with
    | .next t => runCommands cs t
    | .fault _ => none
    | .refused _ => none

/-- `y` is `x` brought into `lo`..`hi`, the nearest value where `x` lies outside (R174). -/
def Nearest (lo hi x y : Nat) : Prop := y = if x < lo then lo else if hi < x then hi else x

/-! ### Frames -/

/-- Between `s` and `t` nothing but line `l` differs. -/
def OnlyLine (l : LineNo) (s t : State) : Prop :=
  (∀ m, m ≠ l → t.line m = s.line m) ∧ { t with lines := s.lines } = s

/-- Between `s` and `t` nothing but line `l`, the selection and the selector's notices differs. -/
def OnlyLineAndSelection (l : LineNo) (s t : State) : Prop :=
  (∀ m, m ≠ l → t.line m = s.line m)
    ∧ { t with lines := s.lines, selected := s.selected, lostNotice := s.lostNotice, gradeNotice := s.gradeNotice } = s

/-- Between `s` and `t`, a read mark of line `l`, nothing but line `l`, the selection and its loss, the slip log and the mark's
place in the list of what is due differs. -/
def OnlyReadMark (l : LineNo) (s t : State) : Prop :=
  (∀ m, m ≠ l → t.line m = s.line m) ∧ t.due = s.due.erase (.readMark l)
    ∧ { t with lines := s.lines, selected := s.selected, lostNotice := s.lostNotice, log := s.log, due := s.due } = s

/-- Between `s` and `t`, the monitors' epoch work, nothing differs but the monitors of enabled lines, the selection and its
loss, and the work's place in the list of what is due. -/
def OnlyMonitors (s t : State) : Prop :=
  (∀ l, t.line l = { s.line l with mon := (t.line l).mon }) ∧ (∀ l, s.enabled l = false → t.line l = s.line l)
    ∧ t.due = s.due.erase .monitorEpochWork
    ∧ { t with lines := s.lines, selected := s.selected, lostNotice := s.lostNotice, due := s.due } = s

/-- Between `s` and `t`, an epoch mark at the floor clock unit, nothing differs but the floor clock and its steering, the peer
table, the HOLD slot and the flight of the bus, the selection and its notices, the mark's place in the list of what is due, and on
each line the jump flags, the recentre request and the monitor. -/
def OnlyEpochMark (s t : State) : Prop :=
  (∀ l, t.line l = { s.line l with
      lrx := { (s.line l).lrx with jumpFlag := (t.line l).lrx.jumpFlag, jumpAhead := (t.line l).lrx.jumpAhead }
      store := { (s.line l).store with request := (t.line l).store.request }
      mon := (t.line l).mon })
    ∧ t.due = s.due.erase .epochMark
    ∧ t.floor.time = s.floor.time ∧ t.floor.frame = s.floor.frame ∧ t.floor.epoch = s.floor.epoch
    ∧ t.floor.sequence = s.floor.sequence
    ∧ { t with
        lines := s.lines, floor := s.floor, steer := s.steer, peers := s.peers, selected := s.selected
        lostNotice := s.lostNotice, gradeNotice := s.gradeNotice, due := s.due
        bus := { t.bus with hold := s.bus.hold, flight := s.bus.flight } } = s

/-- The pick has been made in `t` (R107, R116): with transmit enabled the bulletin in flight is, in GAP with no attempt, the HOLD,
else the TIMING, else the INTRO, else the oldest REPORT; under DUPLICATE only a REPORT. -/
def PickMade (t : State) : Prop :=
  t.bus.flight =
    if t.bus.enabled = false then none
    else if t.duplicate = false ∧ t.bus.hold.isSome = true then some { slot := .hold }
    else if t.duplicate = false ∧ t.bus.timing.isSome = true then some { slot := .timing }
    else if t.duplicate = false ∧ t.bus.intro.isSome = true then some { slot := .intro }
    else if t.bus.reports ≠ [] then some { slot := .report }
    else none

/-- A HOLD with count `n` submitted between `s` and `t`: discarded in standalone mode and under DUPLICATE, deferred behind a HOLD
in flight, taken into the slot otherwise, where a bulletin in flight stays and with none the pick follows (R106, R107, R116, R117). -/
def HoldSubmitted (n : Nat) (s t : State) : Prop :=
  if s.standalone = true ∨ s.duplicate = true then t.bus = s.bus ∧ t.steer.deferredHold = s.steer.deferredHold
  else if s.bus.hold.isSome = true ∧ s.bus.flight.map Flight.slot = some .hold then
    t.bus = s.bus ∧ t.steer.deferredHold = some n
  else t.bus.hold = some (holdBulletin s.number n) ∧ t.steer.deferredHold = s.steer.deferredHold
    ∧ (s.bus.flight.isSome = true → t.bus.flight = s.bus.flight) ∧ (s.bus.flight = none → PickMade t)

/-- The peer snapshot shows `p` as a source peer announcing grade `g` (R85). -/
def IsSource (s : State) (p : PeerNo) (g : Nat) : Prop :=
  (s.steer.snapshot.get p).state = .active ∧ (s.steer.snapshot.get p).profileMatches = true ∧ 1 ≤ g ∧ g ≤ 5
    ∧ (s.steer.snapshot.get p).announced.map Announced.grade = some g
    ∧ (s.steer.snapshot.get p).announced.map Announced.role ≠ some .following

/-- The selected line leads at a mark that leaves `t`: no source peer announces a better grade (R86). -/
def LineLeads (s t : State) (l : LineNo) : Prop :=
  s.selected = some l ∧ ∀ p g, IsSource t p g → (s.line l).lrx.grade ≤ g

/-- The unit computes at this mark: in ACQUIRE or TRACK, or at the fourth listen mark (R67). -/
def Computes (s : State) : Prop := s.floor.state = .acquire ∨ s.floor.state = .track ∨ (s.floor.state = .start ∧ s.floor.listen = 3)

/-- A line after one bit of the hunt that leaves its receiver as `r` says: the bit is counted by the search timer, which asserts and
latches LOF as it comes to 16 periods, and its edge starts the edge watch again (R2, R8). -/
def Line.counted (x : Line) (r : Lrx) : Line :=
  { x with
    lrx := { r with
      edgeWatch := 0, searchBits := min 4608 (x.lrx.searchBits + 1)
      lof := x.lrx.lof || decide (4608 ≤ x.lrx.searchBits + 1) }
    mon := { x.mon with latched := { x.mon.latched with
      lof := x.mon.latched.lof || (!x.lrx.lof && decide (4608 ≤ x.lrx.searchBits + 1)) } } }

/-! ### The terms of a computation (R82, R83, R91, R92), read from its epoch mark `s` and the state `t` it leaves -/

/-- What an entry of the peer snapshot contributes at the leading grade `lead` and the jump generation `gen`: a source peer that
announces that grade gives the mean of its samples (R82, R85, R91). -/
def PeerSnap.contribution (gen lead : Nat) (p : PeerSnap) : Option Int :=
  match p.announced with
  | none => none
  | some a =>
    if p.state = .active ∧ p.profileMatches = true ∧ a.role ≠ .following ∧ a.grade = lead ∧ 1 ≤ lead ∧ lead ≤ 5
        ∧ 0 < p.count ∧ p.generation = gen then
      some (roundDiv p.sum p.count)
    else none

/-- The terms of the peer contributors (R91). -/
def contributions (s t : State) : List Int :=
  allPeers.filterMap fun p => (t.steer.snapshot.get p).contribution s.floor.generation t.steer.announced

/-- The anchor term: the distance of the selected line's phase from the offset, which is that phase itself where the offset is
captured at this computation (R83, R84). -/
def anchorTermAt (s t : State) : Option Int :=
  match t.steer.role, s.selected.bind fun l => (s.line l).mon.handedPhase with
  | some .anchored, some p =>
    some (wrap ((p : Int)
      - (if s.steer.role = some .anchored ∧ s.steer.anchor = s.selected then s.steer.offset.getD p else p)))
  | _, _ => none

/-- The mean of the peer contributors alone (R97). -/
def peerMeanAt (s t : State) : Option Int :=
  if s.setup.weight t.steer.announced = 0 ∨ contributions s t = [] then none
  else some (roundDiv (s.setup.weight t.steer.announced * (contributions s t).sum)
    (s.setup.weight t.steer.announced * (contributions s t).length))

/-- The combined error, the anchor counting as many peers as the anchor gain says (R91, R92). -/
def combinedError (s t : State) : Option Int :=
  match anchorTermAt s t with
  | none => peerMeanAt s t
  | some a =>
    if s.setup.weight t.steer.announced = 0 ∨ (contributions s t).length + s.setup.anchorGain = 0 then none
    else some (roundDiv (s.setup.weight t.steer.announced * ((contributions s t).sum + s.setup.anchorGain * a))
      (s.setup.weight t.steer.announced * ((contributions s t).length + s.setup.anchorGain)))

/-- The own hold counter as the loop filter reads it: set to the hold epochs by a change into, out of or within ANCHORED (R86, R88,
R95). -/
def holdAtFilter (s t : State) : Nat :=
  if (t.steer.role = some .anchored ∧ (s.steer.role ≠ some .anchored ∨ s.steer.anchor ≠ s.selected))
      ∨ (t.steer.role ≠ some .anchored ∧ s.steer.role = some .anchored) then s.setup.holdEpochs
  else s.steer.ownHold

/-- How far the anchor term has moved against the peer mean since the record was made, where both hold for line `l` (R98). -/
def crosscheckMeasure (s t : State) (l : LineNo) : Option Int :=
  match anchorTermAt s t, s.steer.recordAnchor, peerMeanAt s t, s.steer.recordMean with
  | some x, some (k, y), some m, some n => if k = l then some ((x - y) - (m - n)) else none
  | _, _, _, _ => none

/-- The computation judges line `l` OVER: it stays the anchor on the same offset, and the measure exceeds 32 fu (R97, R98). -/
def JudgedOver (s t : State) (l : LineNo) : Prop :=
  s.steer.role = some .anchored ∧ s.steer.anchor = some l ∧ s.selected = some l ∧ s.steer.offset.isSome = true
    ∧ (crosscheckMeasure s t l).any (fun c => decide (32 < c.natAbs)) = true

/-! ### The clockwork -/

/-- No command waits for the part and none of its own has come about: the step is one period of the fine clock (log 1, log 4). -/
def Idling (s : State) : Prop :=
  s.pending = [] ∧ s.due = [] ∧ s.lostNotice = none ∧ s.gradeNotice = none ∧ s.inReset = false
    ∧ ((s.queue = [] ∧ s.restartsWaiting = 0) ∨ s.service.isSome = true)

/-- The own command that takes a received bulletin from the head of the queue into service, by its kind and an INQUIRY's subject
(R126, R135). -/
def ServedBy (e : RxEntry) (c : Instr) : Prop :=
  (kindOf e.octets = 1 ∧ c = .serveTiming) ∨ (kindOf e.octets = 2 ∧ c = .serveIntro) ∨ (kindOf e.octets = 3 ∧ c = .serveHold)
    ∨ (kindOf e.octets = 4 ∧ ((octetAt e.octets 2 = 1 ∧ c = .inquiryLog) ∨ (octetAt e.octets 2 = 2 ∧ c = .inquiryLines)
      ∨ (octetAt e.octets 2 = 3 ∧ c = .inquiryPeers) ∨ (octetAt e.octets 2 = 4 ∧ c = .inquiryStation)
      ∨ ((octetAt e.octets 2 = 0 ∨ 5 ≤ octetAt e.octets 2) ∧ c = .inquiryUnknownSubject)))
    ∨ (kindOf e.octets = 6 ∧ c = .clear) ∨ (kindOf e.octets = 7 ∧ c = .restart)

/-- The line and the bits of a command that brings bits to the hunt (R4, R5). -/
def bitsBrought : Instr → Option (LineNo × List Bool)
  | .candidateTaken l bits => some (l, bits)
  | .candidateServiceOctet l bits => some (l, bits)
  | .confirmationPoint l bits => some (l, bits)
  | _ => none

/-- The recovered clock of line `l` has an edge in the period. -/
def clockEdge (s : State) (l : LineNo) : Bool := s.pins.lineClock.getLsbD l.val && !(s.line l).lrx.clockSeen

/-- The pair has a transition in the period, those of the station's own sending among them: the next level that a bulletin in SENDING
drives differs from the last, or its driver goes off (R103; log 31). -/
def transition (s : State) : Bool :=
  s.pins.busLevel != s.bus.lastLevel
    || s.bus.flight.any fun f => f.phase == .sending
      && (f.stop == some (f.sent + 1)
        || wireLevel (withCheck (s.bus.content f.slot)) (f.sent + 1) != wireLevel (withCheck (s.bus.content f.slot)) f.sent)

/-- The period is the last of its bit time (log 31). -/
def endsBitTime (s : State) : Bool := (s.bus.bitPhase + 1) % 64 == 0

/-- The bus interface works and its step is one period of the fine clock. -/
def BusIdling (s : State) : Prop := Idling s ∧ s.running = true ∧ s.standalone = false

/-- What an own echo that ends badly leaves: a miss for a launch that is released, the fourth in a row asserting and latching ECHO;
for one that is not, its bad end (R113). -/
def State.echoFails (s : State) : State :=
  if s.bus.echoAwaited then
    { s with
      bus := { s.bus with
        echoAwaited := false, echoMiss := if s.bus.echoMiss < 4 then s.bus.echoMiss + 1 else s.bus.echoMiss
        echo := s.bus.echo || decide (3 ≤ s.bus.echoMiss) }
      flags := { s.flags with echo := s.flags.echo || (!s.bus.echo && decide (3 ≤ s.bus.echoMiss)) } }
  else { s with bus := { s.bus with echoResult := some false } }

/-- What a frame with a framing or check fault leaves: an own echo fails, any other is counted by CRC (R113, R121). -/
def State.frameFails (s : State) (ownEcho : Bool) : State :=
  if ownEcho then s.echoFails
  else { s with counters := { s.counters with crc := if s.counters.crc < 65535 then s.counters.crc + 1 else s.counters.crc } }

/-- The receiver's recovery run over bit times on the pair, one after the other: in each period the level of the half that stands
and what is noted then; `level` is what the pair read before (R100). -/
def recoverHalf (now : Nat → Mark) (v : Bool) : Nat → Nat × Bool × Recovery → Nat × Bool × Recovery
  | 0, x => x
  | n + 1, (k, level, r) => recoverHalf now v n (k + 1, v, r.next true v (v != level) (now k))

/-- The recovery after the bit times of a list. -/
def recoverBits (now : Nat → Mark) : List (Bool × Bool) → Nat × Bool × Recovery → Nat × Bool × Recovery
  | [], x => x
  | h :: hs, x => recoverBits now hs (recoverHalf now h.2 32 (recoverHalf now h.1 32 x))

/-- Between `s` and `t` nothing but the bus interface and the HOLD deferred for it differs. -/
def OnlyBus (s t : State) : Prop :=
  { t with bus := s.bus, steer := { t.steer with deferredHold := s.steer.deferredHold } } = s

/-- Between `s` and `t` nothing but the entry of peer `p`, the head of the queue, the latched PROFILE flag and the bus
interface's INTRO slot and flight differs. -/
def OnlyPeer (p : PeerNo) (s t : State) : Prop :=
  (∀ q, q ≠ p → t.peer q = s.peer q) ∧ t.queue = s.queue.drop 1
    ∧ { t with
        peers := s.peers, queue := s.queue, flags := { t.flags with profile := s.flags.profile }
        bus := { t.bus with intro := s.bus.intro, flight := s.bus.flight } } = s

/-- The bulletin in flight, of slot `k`, has left its slot between `s` and `t`, and its submitter is told: a HOLD's place is
taken by the deferred HOLD, discarded in standalone mode and under DUPLICATE (R106, R109, R112). -/
def FlightEnds (k : Slot) (s t : State) : Prop :=
  t.bus.reports = (if k = .report then s.bus.reports.tail else s.bus.reports)
    ∧ t.bus.timing = (if k = .timing then none else s.bus.timing)
    ∧ t.bus.intro = (if k = .intro then none else s.bus.intro)
    ∧ t.bus.hold = (if k ≠ .hold then s.bus.hold
      else if s.standalone = true ∨ s.duplicate = true then none
      else s.steer.deferredHold.map fun n => [BitVec.ofNat 8 (48 + s.number), 0xFF#8, BitVec.ofNat 8 n])
    ∧ t.steer = { s.steer with deferredHold := if k = .hold then none else s.steer.deferredHold }

/-- Between `s` and `t` nothing differs but the bus interface, the HOLD deferred for it, and the latched flags ECHO, JABBER and
CONTEND. -/
def OnlyBusAndFlags (s t : State) : Prop :=
  { t with
      bus := s.bus, steer := { t.steer with deferredHold := s.steer.deferredHold }
      flags := { t.flags with echo := s.flags.echo, jabber := s.flags.jabber, contend := s.flags.contend } } = s

/-- The bus interface of `t` differs from that of `s` in no more than its slots, its flight, and what `b` changes of the
rest. -/
def SlotsOnly (b : Bus) (t : State) : Prop :=
  t.bus = { b with
    timing := t.bus.timing, hold := t.bus.hold, intro := t.bus.intro, reports := t.bus.reports, flight := t.bus.flight }

/-- The octets of a bulletin, check left out, are as many as its kind asks for (R121). -/
def Sized (x : List Octet) : Prop :=
  (kindOf x = 1 ∧ 9 ≤ x.length ∧ octetAt x 8 ≤ 16 ∧ x.length = 9 + 2 * octetAt x 8)
    ∨ (kindOf x = 2 ∧ x.length = 5) ∨ (kindOf x = 3 ∧ x.length = 3) ∨ (kindOf x = 4 ∧ x.length = 5)
    ∨ (kindOf x = 5 ∧ 5 ≤ x.length ∧ x.length ≤ 53) ∨ (kindOf x = 6 ∧ x.length = 2) ∨ (kindOf x = 7 ∧ x.length = 2)

/-- DUPLICATE has been asserted between `s` and `t` (R116, R152, R153): it is live and latched, the deferred HOLD is discarded, the
TIMING, HOLD and INTRO slots hold only what is in SENDING, and a bulletin in flight stays there if it is in SENDING or a REPORT. -/
def Silenced (s t : State) : Prop :=
  t.duplicate = true ∧ t.flags.duplicate = true ∧ t.steer.deferredHold = none ∧ t.bus.reports = s.bus.reports
    ∧ t.bus.timing = (if s.bus.flying .timing ∧ s.bus.sending then s.bus.timing else none)
    ∧ t.bus.hold = (if s.bus.flying .hold ∧ s.bus.sending then s.bus.hold else none)
    ∧ t.bus.intro = (if s.bus.flying .intro ∧ s.bus.sending then s.bus.intro else none)
    ∧ (s.bus.flying .report = true ∨ s.bus.sending = true → t.bus.flight = s.bus.flight)
    ∧ (s.bus.flying .report = false → s.bus.sending = false →
      t.bus.flight = if s.bus.enabled = true ∧ s.bus.reports ≠ [] then some { slot := .report } else none)

/-- The head of the receive queue is a bulletin of kind `k` and is taken: the part runs, no INQUIRY is in service (R126), and no
RESTART that came before it still waits (log 37). -/
def HeadServed (k : Nat) (q : RxEntry) (s : State) : Prop :=
  s.running = true ∧ s.service = none ∧ s.restartsWaiting = 0 ∧ s.queue.head? = some q ∧ kindOf q.octets = k

/-- A RESTART is served with `behind` in the queue behind it and `waiting` others still to be served: the head of the queue, or one
that waits (R126, R138, R177; log 37). -/
def RestartServed (behind : List RxEntry) (waiting : Nat) (s : State) : Prop :=
  s.running = true ∧ s.service = none
    ∧ ((s.restartsWaiting = 0 ∧ waiting = 0 ∧ ∃ q, kindOf q.octets = 7 ∧ s.queue = q :: behind)
      ∨ (s.restartsWaiting = waiting + 1 ∧ s.queue = behind))

/-- Two octets of a bulletin, the low one first (R120). -/
def octets16 (x : List Octet) (k : Nat) : Nat := octetAt x k + 256 * octetAt x (k + 1)

/-- Four octets of a bulletin, the lowest first (R120). -/
def octets32 (x : List Octet) (k : Nat) : Nat := octets16 x k + 65536 * octets16 x (k + 2)

/-- The twelve octets of `x` from `k` on are the LOG item of a record (07, section 7.1). -/
def ShowsRecord (x : List Octet) (k : Nat) (r : Record) : Prop :=
  octets16 x k = r.sequence % 65536
    ∧ octetAt x (k + 2) = 16 * r.line.val + (match r.kind with
      | .slipRepeat => 0
      | .slipDelete => 1
      | .realignAligned => 6
      | .realignJump => 10)
    ∧ octets32 x (k + 3) = r.epoch % 4294967296 ∧ octets16 x (k + 7) = r.before % 65536
    ∧ octets16 x (k + 9) = r.after % 65536 ∧ octetAt x (k + 11) = r.grade % 8

/-- The six octets of `x` from `k` on are the LINES item of a line (07, section 7.1; R161). -/
def ShowsLine (s : State) (x : List Octet) (k : Nat) (l : LineNo) : Prop :=
  octetAt x k % 16 = l.val
    ∧ octetAt x k / 16 % 4 = (match (s.line l).lrx.align with
      | .off => 0
      | .dark => 0
      | .search => 1
      | .check => 2
      | .aligned => 3)
    ∧ flagAt x k 6 = (s.line l).mon.candidate ∧ flagAt x k 7 = decide (s.selected = some l)
    ∧ octetAt x (k + 1) % 8 = (s.line l).lrx.grade % 8
    ∧ flagAt x (k + 1) 3 = (s.line l).live .lof ∧ flagAt x (k + 1) 4 = (s.line l).live .wander
    ∧ flagAt x (k + 1) 5 = (s.line l).live .diverge ∧ flagAt x (k + 1) 6 = (s.line l).live .degraded
    ∧ flagAt x (k + 1) 7 = (s.line l).live .excess ∧ flagAt x (k + 2) 0 = (s.line l).live .crosscheck
    ∧ flagAt x (k + 2) 1 = (s.line l).mon.latched.lof ∧ flagAt x (k + 2) 2 = (s.line l).mon.latched.wander
    ∧ flagAt x (k + 2) 3 = (s.line l).mon.latched.diverge ∧ flagAt x (k + 2) 4 = (s.line l).mon.latched.degraded
    ∧ flagAt x (k + 2) 5 = (s.line l).mon.latched.excess ∧ flagAt x (k + 2) 6 = (s.line l).mon.latched.crosscheck
    ∧ ((s.line l).store.fill < 512 → octetAt x (k + 2) / 128 * 256 + octetAt x (k + 3) = (s.line l).store.fill)
    ∧ octets16 x (k + 4) = (s.line l).store.slipTotal % 65536

/-- The four octets of `x` from `k` on are the PEERS item of a position (07, section 7.1; R162). -/
def ShowsPeer (s : State) (x : List Octet) (k : Nat) (p : PeerNo) : Prop :=
  if p.val = s.number then octets32 x k = 7
  else if (s.peer p).state = .absent then octets32 x k = 0
  else
    octetAt x k % 8 = (match (s.peer p).state with
      | .absent => 0
      | .joining => 1
      | .active => 2
      | .stale => 3
      | .mismatched => 4)
    ∧ (match (s.peer p).announced with
      | none => octetAt x k / 8 = 0 ∧ octetAt x (k + 1) % 4 = 0
      | some a =>
        octetAt x k / 8 % 4 = (match a.role with
          | .anchored => 0
          | .following => 1
          | .holding => 2
          | .free => 3)
        ∧ octetAt x k / 32 = a.grade % 8
        ∧ octetAt x (k + 1) % 4 = (match a.state with
          | .loading => 0
          | .start => 1
          | .acquire => 2
          | .track => 3))
    ∧ octetAt x (k + 1) / 4 = (s.peer p).urgent.toNat + 2 * (s.peer p).nonurgent.toNat
    ∧ octetAt x (k + 2) = (s.peer p).hold % 256 ∧ octetAt x (k + 3) = (s.peer p).missed % 256

/-- The 48 octets of `x` from 5 on are the STATION payload (07, section 7.1; R163). -/
def ShowsStation (s : State) (x : List Octet) : Prop :=
  octetAt x 5 = (match s.floor.state with
      | .loading => 0
      | .start => 1
      | .acquire => 2
      | .track => 3) + 4 * (match s.steer.role with
      | none => 0
      | some .anchored => 1
      | some .following => 2
      | some .holding => 3
      | some .free => 4) + 32 * s.steer.historyValid.toNat + 64 * s.bus.inverted.toNat
    ∧ octetAt x 6 = s.steer.announced % 8
      + 8 * ((if s.steer.role = none then 0 else s.steer.leading.getD 0) % 8)
    ∧ octetAt x 7 = s.duplicate.toNat + 2 * s.bus.echo.toNat + 4 * s.bus.jabber.toNat
      + 8 * (decide (∃ p, (s.peer p).state = .mismatched)).toNat
    ∧ octetAt x 8 = s.flags.duplicate.toNat + 2 * s.flags.echo.toNat + 4 * s.flags.jabber.toNat + 8 * s.flags.contend.toNat
      + 16 * s.flags.profile.toNat + 32 * s.flags.config.toNat
    ∧ octetAt x 9 = (s.selected.map Fin.val).getD 0 + 16 * s.selected.isSome.toNat + 32 * s.steer.offset.isSome.toNat
    ∧ octetAt x 10 = s.steer.ownHold % 256
    ∧ (s.floor.freq.natAbs ≤ 32767 → (BitVec.ofNat 16 (octets16 x 11)).toInt = s.floor.freq)
    ∧ (s.floor.integral.natAbs ≤ 2147483647 → (BitVec.ofNat 32 (octets32 x 13)).toInt = s.floor.integral)
    ∧ (s.steer.ring.sum.natAbs ≤ 524287 → (BitVec.ofNat 16 (octets16 x 17)).toInt
        = if s.steer.ring.length = 16 then s.steer.ring.sum.tdiv 16 else 0)
    ∧ octets16 x 19 = s.steer.offset.getD 0 % 65536 ∧ octets32 x 21 = s.floor.epoch % 4294967296
    ∧ octets32 x 25 = s.floor.generation % 4294967296 ∧ octets16 x 29 = s.steer.holdAge % 65536
    ∧ octetAt x 31 = s.steer.runCount % 256 ∧ octetAt x 32 = s.steer.ring.length % 256
    ∧ octets16 x 33 = s.counters.crc % 65536 ∧ octets16 x 35 = s.counters.length % 65536
    ∧ octets16 x 37 = s.counters.kind % 65536 ∧ octets16 x 39 = s.counters.overflow % 65536
    ∧ octets16 x 41 = s.counters.misdirect % 65536 ∧ octets16 x 43 = s.bus.contention % 65536
    ∧ octetAt x 45 = s.log.overwrites % 256 ∧ octetAt x 46 = s.number ∧ octetAt x 47 = s.setup.profile.toNat
    ∧ (∀ k : Fin 5, octetAt x (48 + k.val) = 0)

/-- A REPORT's building at its beginning: nothing of it has been read and no period has passed (R126). -/
def Build.begun (b : Build) : Build :=
  { subject := b.subject, parameter := b.parameter, inquirer := b.inquirer, delay := b.delay }

/-- Where each field of the STATION payload begins, in bits: the fields of octets 0 to 4 by their places in the octet, then those
of whole octets, the six counters among them (07, section 7.1; R163). -/
def stationPlaces : List Nat :=
  ([[0, 2, 5, 6], [0, 3], List.range 4, List.range 6, [0, 4, 5]].zipIdx.flatMap fun x => x.1.map fun b => 8 * x.2 + b)
    ++ ([5, 6, 8, 12, 14, 16, 20, 24, 26, 27] ++ (List.range 6).map (fun k => 28 + 2 * k) ++ [40, 41, 42]).map fun k => 8 * k

/-- The bits of the payload that the first `n` units of a REPORT hold: the LOG window is one unit, a line of LINES is six octets, a
position of PEERS four, and each field of STATION is one, its unused bits with it (R159; log 29). -/
def unitBits (subject n : Nat) : Nat :=
  match subject with
  | 1 => if n = 0 then 0 else 384
  | 2 => 48 * n
  | 3 => 32 * n
  | 4 => stationPlaces.getD n 384
  | _ => 0

/-- Bit `j` of the payload of a REPORT, whose octets from 5 on it is (07, section 7.1). -/
def payloadBit (x : List Octet) (j : Nat) : Bool := flagAt x (5 + j / 8) (j % 8)

/-- With `b` in building, REPORT_SUBMISSION in `s` submits the REPORT `x` (R136). -/
def Reports (b : Build) (s : State) (x : List Octet) : Prop :=
  Completes (exec .reportSubmission { s with service := some b }) fun t => t.bus.reports = s.bus.reports ++ [x]

/-! ### Invariants -/

/-- The floor clock keeps its bounds: floor time and frame within their ranges, F within the pull limit and, in ACQUIRE,
within the slew limit, I within 64 times the pull limit, the residue within 65535, and a full ring whenever history is
valid (R63 to R66, R72, R74, R94, R96). -/
structure ClockSound (s : State) : Prop where
  time : s.floor.time < 32768
  frame : s.floor.frame < 64
  pull : s.setup.pullLimit ≤ 32767
  freq : s.floor.freq.natAbs ≤ s.setup.pullLimit
  slew : s.floor.state = .acquire → s.floor.freq.natAbs ≤ 1600 * (s.setup.slewCode + 1)
  integral : s.floor.integral.natAbs ≤ 64 * s.setup.pullLimit
  residue : s.floor.residue.natAbs ≤ 65535
  ringLength : s.steer.ring.length ≤ 16
  ring : ∀ x ∈ s.steer.ring, x.natAbs ≤ s.setup.pullLimit
  run : min 16 s.steer.runCount ≤ s.steer.ring.length
  history : s.steer.historyValid = true → s.steer.ring.length = 16
  listen : s.floor.listen ≤ 4
  lock : s.floor.lock ≤ 3
  unlock : s.floor.unlock ≤ 1
  reading : s.loader.phase = .reading → s.floor.state = .loading
  loading : s.floor.state = .loading → s.floor.freq = 0 ∧ s.floor.integral = 0 ∧ s.floor.residue = 0 ∧ s.steer.ring = []

/-- Every line is otherwise qualified exactly while the conditions of R52 stand, is a candidate exactly while it is so and
its wait is over (R55), and the selected line is a candidate (R59); the role is ANCHORED only with a selected line, or with
the notice of its loss still on its way (R87). -/
structure SelectionSound (s : State) : Prop where
  otherwise : ∀ l, (s.line l).mon.otherwise = qualifies (s.lineSetup l) (s.line l)
  candidate : ∀ l, (s.line l).mon.candidate = ((s.line l).mon.otherwise && (s.line l).mon.wtr == 0)
  selected : ∀ l, s.selected = some l → (s.line l).mon.candidate = true
  anchored : s.steer.role = some .anchored → s.selected.isSome = true ∨ s.lostNotice.isSome = true
  reading : s.loader.phase = .reading → s.floor.state = .loading
  loading : s.floor.state = .loading → ∀ l, (s.line l).lrx.align ≠ .aligned

/-- A frame that carries traffic and is not squelched goes out only in ACQUIRE or TRACK, on an enabled ALIGNED line without
EXCESS (R31, R32). -/
structure OutputSound (s : State) : Prop where
  traffic : ∀ l h, (s.line l).framer.inHand = some h → h.traffic = true → (s.line l).framer.squelched = false →
    s.steered = true ∧ s.enabled l = true ∧ s.isAligned l = true ∧ (s.line l).store.excess = false
  reading : s.loader.phase = .reading → s.floor.state = .loading

/-- Every live condition has its latched flag set (R50, R164), so a CLEAR cannot drop it (R51, R165). -/
structure FlagsSound (s : State) : Prop where
  line : ∀ l c, (s.line l).live c = true → (s.line l).mon.latched.get c = true
  duplicate : s.duplicate = true → s.flags.duplicate = true
  echo : s.bus.echo = true → s.flags.echo = true
  jabber : s.bus.jabber = true → s.flags.jabber = true
  profile : profileLive s.peers = true → s.flags.profile = true

/-- LOF and alignment: an ALIGNED line has LOF clear, a DARK line has it live (R8), and outside LOADING a line is OFF exactly
when it is disabled (R1). -/
structure AlignSound (s : State) : Prop where
  aligned : ∀ l, (s.line l).lrx.align = .aligned → (s.line l).lrx.lof = false
  dark : ∀ l, (s.line l).lrx.align = .dark → (s.line l).lrx.lof = true
  off : s.running = true → ∀ l, ((s.line l).lrx.align = .off ↔ s.enabled l = false)
  reading : s.loader.phase = .reading → s.floor.state = .loading
  loading : s.floor.state = .loading → ∀ l, (s.line l).lrx.align = .search ∧ (s.line l).lrx.lof = false

/-- The sequences of the records from `first` on are consecutive modulo 65536. -/
def consecutiveFrom : Nat → List Record → Prop
  | _, [] => True
  | n, r :: rs => r.sequence = n % 65536 ∧ consecutiveFrom (n + 1) rs

/-- The slip log holds at most 64 records, consecutive modulo 65536 up to the next sequence (R156). -/
structure LogSound (g : Log) : Prop where
  size : g.records.length ≤ 64
  next : g.next < 65536
  sequences : consecutiveFrom (g.next + 65536 - g.records.length) g.records
  overwrites : g.overwrites ≤ 255

/-- The queues keep their sizes (R106, R125), no peer entry stands at the station's own number (R139), what the queue holds
for the peer table comes from another retimer (R122), and DUPLICATE leaves in the queue only REPORTs and what is already in
SENDING (R116). -/
structure BusSound (s : State) : Prop where
  queue : s.queue.length ≤ 8
  reports : s.bus.reports.length ≤ 4
  own : ∀ p : PeerNo, p.val = s.number → (s.peer p).state = .absent
  sources : ∀ e ∈ s.queue, kindOf e.octets ≤ 3 → sourceOf e.octets ≠ s.number ∧ sourceOf e.octets < 12
  silent : s.duplicate = true → ∀ f, s.bus.flight = some f → f.slot ≠ .report → f.phase = .sending
  held : s.inReset = true → s.queue = [] ∧ s.restartsWaiting = 0 ∧ s.floor.state = .loading ∧ ∀ p, (s.peer p).state = .absent
  loading : s.floor.state = .loading → s.bus.frame = none

end Sys2Proof.Machine
end

