-- ==== Sys2Proof/Certificates/Slice0/Obligations.lean ====
section
/-! DEFINITION. The statements to be proved. -/

section
open Sys2Proof Sys2Proof.Machine

/-! ### The step, reset and start-up -/

/-- The block's step: the command at the front of the queue runs on the state with the rest of the queue. With no command waiting,
the next of the part's own that has come about is put there alone, for the next step to run: a notice of the selector (R58, R59),
else the command that takes the next received bulletin into service, a RESTART that waits or the head of the queue (R126; log 37),
else the oldest that is due and still stands (a bit of the hunt by where the hunt stands); that order is the model's choice (log 4,
log 28). With none, one period of the fine clock passes (log 1), and in reset nothing does (R170). -/
def Obligations.StepRunsFrontCommand : Prop :=
  ∀ (s : State),
    (∀ (c : Instr) (rest : List Instr), step { s with pending := c :: rest } = exec c { s with pending := rest })
      ∧ (∀ due, s.pending = [] → due = s.due.filter (stillDue s) →
        (∀ l, s.lostNotice = some l →
          step s = .next { s with pending := [.selectionLostNotice l], due := due.erase (.selectionLostNotice l) })
        ∧ (∀ l g, s.lostNotice = none → s.gradeNotice = some (l, g) →
          step s = .next { s with pending := [.gradeChangeNotice l g], due := due.erase (.gradeChangeNotice l g) })
        ∧ (s.lostNotice = none → s.gradeNotice = none → s.running = true → s.service = none → 0 < s.restartsWaiting →
          step s = .next { s with pending := [.restart], due := due.erase .restart })
        ∧ (∀ e c, s.lostNotice = none → s.gradeNotice = none → s.running = true → s.service = none → s.restartsWaiting = 0 →
          s.queue.head? = some e → ServedBy e c → step s = .next { s with pending := [c], due := due.erase c })
        ∧ (s.lostNotice = none → s.gradeNotice = none → (s.running = false ∨ s.service.isSome = true
            ∨ (s.queue = [] ∧ s.restartsWaiting = 0)) →
          (∀ c rest, due = c :: rest → step s = .next { s with pending := [asItStands s c], due := rest })
            ∧ (due = [] → step s = .next (tick { s with due := [] }))
            ∧ (due = [] → s.inReset = true → step s = .next { s with due := [] })))
      ∧ (∀ c, (∀ l, c ≠ .edgeWatchExpiry l) →
        c ∉ [Instr.carrierIdle, .launch, .jabberCutoff, .backoffExpiry, .transmissionRelease, .collision] → stillDue s c = true)
      ∧ (∀ c, bitsBrought c = none → asItStands s c = c)
      ∧ (∀ c l bits, bitsBrought c = some (l, bits) →
        asItStands s c = if (s.line l).lrx.align = .check then .confirmationPoint l bits
          else if (s.line l).lrx.held = [] then .candidateTaken l bits else .candidateServiceOctet l bits)

/-- R79: the floor clock unit after power-on and after a reset-pin assertion, in any state, with fallback grade 5; floor time starts
from 0 at the release. -/
def Obligations.ResetFloorClock : Prop :=
  ∀ (c : Instr) (k : BitVec 4) (s : State),
    (c = .powerOn ∨ c = .resetPinAssertion →
      Completes (exec c s) fun t =>
        t.floor.time = 0 ∧ t.floor.frame = 0 ∧ t.floor.epoch = 0 ∧ t.floor.residue = 0 ∧ t.floor.freq = 0 ∧ t.floor.integral = 0
          ∧ t.floor.generation = 0 ∧ t.floor.state = .loading ∧ t.floor.listen = 0 ∧ t.floor.lock = 0 ∧ t.floor.unlock = 0
          ∧ t.steer.role = none ∧ t.steer.leading = none ∧ t.steer.announced = 6 ∧ t.steer.ownHold = 0 ∧ t.steer.offset = none
          ∧ t.steer.deferredHold = none ∧ t.steer.ring = [] ∧ t.steer.runCount = 0 ∧ t.steer.historyValid = false
          ∧ t.steer.holdAge = 65535 ∧ fallbackGrade t.setup t.steer = 5)
      ∧ (s.inReset = true → Completes (exec (.resetPinRelease k) s) fun t => t.floor.time = 0)

/-- Every other block after power-on and after a reset-pin assertion (R18, R39, R61, R99, R118, R124, R128, R130, R154, R157,
R158, R166, R169, R170). That the queue, the input pins and the count of free values stay is the model's choice (log 17). -/
def Obligations.ResetEveryBlock : Prop :=
  ∀ (c : Instr) (s : State), c = .powerOn ∨ c = .resetPinAssertion →
    Completes (exec c s) fun t =>
      (∀ l, (t.line l).lrx.align = .search ∧ (t.line l).lrx.held = [] ∧ (t.line l).lrx.candidate = none
        ∧ (t.line l).lrx.failed = 0 ∧ (t.line l).lrx.searchBits = 0 ∧ (t.line l).lrx.lof = false
        ∧ (t.line l).lrx.wordWindow = [] ∧ (t.line l).lrx.gradeRun = {} ∧ (t.line l).lrx.farRun = {}
        ∧ (t.line l).lrx.grade = 6 ∧ (t.line l).lrx.farEnd = true ∧ (t.line l).lrx.trafficParity = none
        ∧ (t.line l).lrx.parityCount = 0 ∧ (t.line l).lrx.acc = ⟨none, 0, 0⟩ ∧ (t.line l).lrx.alignedThroughout = false
        ∧ (t.line l).lrx.jumpFlag = false ∧ (t.line l).lrx.prevPhase = none)
      ∧ (∀ l, (∀ k, (t.line l).store.cells.get k = 0xFF#8) ∧ (∀ k, (t.line l).store.fresh.get k = false)
        ∧ (t.line l).store.w = 0 ∧ (t.line l).store.n = 0 ∧ (t.line l).store.fill = 0
        ∧ (t.line l).store.repeatPending = false ∧ (t.line l).store.deletePending = false ∧ (t.line l).store.request = none
        ∧ (t.line l).store.slipTotal = 0 ∧ (t.line l).store.epochSlips = 0 ∧ (t.line l).store.excess = false
        ∧ (t.line l).framer.inHand = none ∧ (t.line l).framer.count = 0 ∧ (t.line l).framer.parity = none
        ∧ (t.line l).framer.reason = .none ∧ t.output l = true)
      ∧ (∀ l, (t.line l).mon.wander = false ∧ (t.line l).mon.diverge = false ∧ (t.line l).mon.degraded = false
        ∧ (t.line l).mon.crosscheck = false ∧ (t.line l).mon.prevDrift = none ∧ (t.line l).mon.wanderRun = 0
        ∧ (t.line l).mon.divergeRun = 0 ∧ (t.line l).mon.crossRun = 0 ∧ (t.line l).mon.crossReleaseRun = 0
        ∧ (t.line l).mon.latched = {} ∧ (t.line l).mon.otherwise = false ∧ (t.line l).mon.wtr = 0
        ∧ (t.line l).mon.candidate = false)
      ∧ t.selected = none
      ∧ (t.steer.anchor = none ∧ t.steer.peerHold = false ∧ t.steer.holdover = none ∧ t.steer.recordAnchor = none
        ∧ t.steer.recordMean = none ∧ ∀ p, t.steer.snapshot.get p = {})
      ∧ (t.bus.inverted = false ∧ t.bus.invertedRun = 0 ∧ t.bus.quiet = 0 ∧ t.bus.busy = true ∧ t.bus.frame = none
        ∧ t.bus.timing = none ∧ t.bus.hold = none ∧ t.bus.intro = none ∧ t.bus.reports = [] ∧ t.bus.flight = none
        ∧ t.bus.driveRun = 0 ∧ t.bus.enabled = true ∧ t.bus.jabber = false ∧ t.bus.echoMiss = 0 ∧ t.bus.echo = false
        ∧ t.bus.contention = 0 ∧ t.busDriver = none)
      ∧ (t.queue = [] ∧ t.restartsWaiting = 0 ∧ t.service = none ∧ t.counters = ⟨0, 0, 0, 0, 0⟩ ∧ t.inquiryDropped = false
        ∧ t.floor.sequence = 0)
      ∧ (∀ p, t.peer p = {}) ∧ t.duplicate = false
      ∧ t.log = ⟨[], 0, 0⟩ ∧ t.flags = {} ∧ t.urgent = false ∧ t.nonurgent = false
      ∧ (t.inReset = true ∧ t.loader.phase = .reading ∧ t.loader.buffer = [] ∧ t.spiSelect = false)
      ∧ t.pending = s.pending ∧ t.pins = s.pins ∧ t.freeCount = s.freeCount

/-- RESET_PIN_RELEASE (R171 step 1, R175): the straps become the station number, 12..15 is standalone mode, the image read
begins with an empty buffer, floor time starts from 0, and nothing else moves. Then, a period of the fine clock at a time, data in is
read in the middle of each SPI period after the three octets sent (log 24), eight bits make an octet, most significant first, and the
968th period hands over (R171). -/
def Obligations.ReleaseStartsLoad : Prop :=
  ∀ (k : BitVec 4) (s : State),
    (s.inReset = true →
      Completes (exec (.resetPinRelease k) s) fun t =>
        t.inReset = false ∧ t.number = k.toNat ∧ t.standalone = decide (12 ≤ k.toNat)
          ∧ t.loader = { phase := .reading, buffer := [], bits := [], fu := 0, strap := k } ∧ t.floor.time = 0
          ∧ t.spiSelect = true
          ∧ { t with inReset := s.inReset, loader := s.loader, floor := { t.floor with time := s.floor.time } } = s)
      ∧ (Idling s → s.floor.state = .loading → s.loader.phase = .reading → s.loader.bits.length < 8 →
        Completes (step s) fun t =>
          t.loader = { s.loader with fu := s.loader.fu + 1, bits := t.loader.bits, buffer := t.loader.buffer }
            ∧ ((s.loader.fu + 1) % 64 ≠ 32 ∨ s.loader.fu + 1 < 24 * 64 ∨ 968 * 64 ≤ s.loader.fu + 1 →
              t.loader.bits = s.loader.bits ∧ t.loader.buffer = s.loader.buffer)
            ∧ ((s.loader.fu + 1) % 64 = 32 → 24 * 64 ≤ s.loader.fu + 1 → s.loader.fu + 1 < 968 * 64 →
              if s.loader.bits.length = 7 then
                t.loader.bits = [] ∧ ∃ o, t.loader.buffer = s.loader.buffer ++ [o] ∧ o.getLsbD 0 = s.pins.spiDataIn
                  ∧ ∀ i : Fin 7, o.getLsbD (7 - i.val) = s.loader.bits.getD i.val false
              else t.loader.bits = s.loader.bits ++ [s.pins.spiDataIn] ∧ t.loader.buffer = s.loader.buffer)
            ∧ (.handOverIntoStart [] ∈ t.due ↔ s.loader.fu + 1 = 968 * 64))

/-- The configuration an image gives (R173, R174): with a signature other than 56H 52H every field takes its default; with the
good one each field is the value stored, or the nearest legal value, line by line. -/
def Obligations.ImageGivesConfiguration : Prop :=
  ∀ (img : List Octet),
    (img.getD 0 0#8 ≠ 0x56#8 ∨ img.getD 1 0#8 ≠ 0x52#8 →
    (configured img).profile = 0#8 ∧ (configured img).holdEpochs = 8 ∧ (configured img).holdoverLimit = 120
      ∧ (configured img).pullLimit = 25600 ∧ (configured img).jumpThreshold = 512 ∧ (configured img).lockWindow = 64
      ∧ (configured img).delayComp = 0 ∧ (configured img).slewCode = 15 ∧ (configured img).anchorGain = 4
      ∧ (configured img).weight1 = 16 ∧ (configured img).weight2 = 8 ∧ (configured img).weight3 = 4
      ∧ (configured img).weight4 = 2 ∧ (configured img).weight5 = 1 ∧ (configured img).kp = 5 ∧ (configured img).ki = 3
      ∧ (configured img).intervalCode = 1
      ∧ ∀ l, (configured img).lines.get l = ⟨true, false, 8, 24, 16, 8, 4, 18, 270, false, false, false, false, false⟩)
      ∧ (img.getD 0 0#8 = 0x56#8 → img.getD 1 0#8 = 0x52#8 →
    (configured img).profile = img.getD 2 0#8 ∧ (configured img).holdEpochs = octetAt img 5
      ∧ Nearest 1 255 (octetAt img 6) (configured img).holdoverLimit
      ∧ Nearest 1024 32767 (octetAt img 7 + 256 * octetAt img 8) (configured img).pullLimit
      ∧ Nearest 64 16383 (octetAt img 9 + 256 * octetAt img 10) (configured img).jumpThreshold
      ∧ Nearest 8 1023 (octetAt img 11 + 256 * (octetAt img 12 % 4)) (configured img).lockWindow
      ∧ (configured img).delayComp = octetAt img 12 / 4
      ∧ (configured img).slewCode = octetAt img 13 % 16
      ∧ Nearest 1 8 (octetAt img 13 / 16) (configured img).anchorGain
      ∧ (configured img).weight1 = octetAt img 14 % 32
      ∧ (configured img).weight2 = octetAt img 14 / 32 + 8 * (octetAt img 15 % 4)
      ∧ (configured img).weight3 = octetAt img 15 / 4 % 32
      ∧ (configured img).weight4 = octetAt img 15 / 128 + 2 * (octetAt img 16 % 16)
      ∧ (configured img).weight5 = octetAt img 16 / 16 + 16 * (octetAt img 17 % 2)
      ∧ (configured img).kp = octetAt img 17 / 2 % 8 ∧ (configured img).ki = octetAt img 17 / 16 % 4
      ∧ Nearest 0 2 (octetAt img 17 / 64) (configured img).intervalCode
      ∧ ∀ l : LineNo,
        ((configured img).lines.get l).enable = (octetAt img (3 + l.val / 8)).testBit (l.val % 8)
        ∧ Nearest 9 135 (octetAt img (18 + l.val)) ((configured img).lines.get l).slipLow
        ∧ Nearest 153 279 (octetAt img (34 + l.val) % 128 + 152) ((configured img).lines.get l).slipHigh
        ∧ ((configured img).lines.get l).maskExcess = decide (128 ≤ octetAt img (34 + l.val))
        ∧ Nearest 1 255 (octetAt img (50 + l.val)) ((configured img).lines.get l).wanderLimit
        ∧ Nearest 1 255 (octetAt img (66 + l.val)) ((configured img).lines.get l).divergeLimit
        ∧ ((configured img).lines.get l).mayAnchor = decide (octetAt img (82 + l.val) % 16 ≠ 0)
        ∧ ((configured img).lines.get l).priority = (if octetAt img (82 + l.val) % 16 = 0 then 8 else octetAt img (82 + l.val) % 16)
        ∧ ((configured img).lines.get l).wtrCode = octetAt img (82 + l.val) / 16
        ∧ Nearest 1 63 (octetAt img (98 + l.val) % 64) ((configured img).lines.get l).parityLimit
        ∧ ((configured img).lines.get l).maskDegraded = decide (octetAt img (98 + l.val) / 64 % 2 = 1)
        ∧ ((configured img).lines.get l).maskCrosscheck = decide (128 ≤ octetAt img (98 + l.val))
        ∧ ((configured img).lines.get l).maskWander = (octetAt img (114 + l.val / 8)).testBit (l.val % 8)
        ∧ ((configured img).lines.get l).maskDiverge = (octetAt img (116 + l.val / 8)).testBit (l.val % 8))

/-- HAND_OVER_INTO_START (R176, with R1, R18, R61, R69, R99, R166): the 118th octet ends the load; the configuration is
fixed, a bad signature latches CONFIG, enabled lines search and disabled ones are OFF, every wait is loaded and the floor
enters START. The lines' clocks and the bus are watched from the levels that stand at the hand-over (the model's choice, log 13). With
fewer octets only the buffer grows. -/
def Obligations.HandOverEntersStart : Prop :=
  ∀ (octets : List Octet) (s : State), s.inReset = false → s.loader.phase = .reading →
    ((s.loader.buffer ++ octets).length = 118 →
      Completes (exec (.handOverIntoStart octets) s) fun t =>
        t.setup = configured (s.loader.buffer ++ octets)
          ∧ t.loader = { s.loader with phase := .done, buffer := s.loader.buffer ++ octets, bits := [] }
          ∧ t.flags = { s.flags with config := s.flags.config || !signatureGood (s.loader.buffer ++ octets) }
          ∧ t.floor = { s.floor with state := .start, listen := 0, lock := 0, unlock := 0 }
          ∧ t.steer = { s.steer with
              role := none, announced := 6, ownHold := 0, offset := none, anchor := none, holdover := none
              recordAnchor := none, recordMean := none }
          ∧ (∀ l, t.line l = { s.line l with
              lrx := { (s.line l).lrx with
                align := if t.enabled l then .search else .off, edgeWatch := 0, searchBits := 0
                clockSeen := s.pins.lineClock.getLsbD l.val }
              mon := { (s.line l).mon with wtr := 16 * (t.lineSetup l).wtrCode } })
          ∧ t.bus = { s.bus with lastLevel := s.pins.busLevel }
          ∧ { t with
              setup := s.setup, loader := s.loader, flags := s.flags, floor := s.floor, steer := s.steer, lines := s.lines
              bus := s.bus } = s)
      ∧ ((s.loader.buffer ++ octets).length < 118 →
        exec (.handOverIntoStart octets) s
          = .next { s with loader := { s.loader with buffer := s.loader.buffer ++ octets } })

/-! ### Line receivers -/

/-- EDGE_WATCH_EXPIRY (R2, R8, R32, R52, R59): a line in SEARCH, CHECK or ALIGNED goes DARK, LOF is asserted and latched, a
traffic frame in progress is squelched, a selected line that was otherwise qualified is dropped with its notice, and nothing else
moves. The command brings the watch to 3670, whatever it stood at (the model's choice, log 3). FIRST_CLOCK_EDGE (R3): a DARK line goes to
SEARCH, its search timer starts from 0 and counts the first bit, which is the first one scanned; LOF stays. In the clockwork an edge of
the recovered clock, the rising one alone (the model's choice, log 16), sets the edge watch to 0 and ends a DARK line's silence; a period
without one adds to the watch of a line in SEARCH, CHECK or ALIGNED, whose expiry comes at 3670 (R2). -/
def Obligations.ClockLossAndReturn : Prop :=
  ∀ (l : LineNo) (bit : Bool) (s : State),
    (s.running = true → (s.line l).lrx.align ≠ .off → (s.line l).lrx.align ≠ .dark →
    Completes (exec (.edgeWatchExpiry l) s) fun t =>
      (t.line l).lrx = { (s.line l).lrx with
          align := .dark, edgeWatch := 3670, candidate := none, held := [], scan := [], failed := 0, lof := true
          grade := 6, farEnd := true, gradeRun := {}, farRun := {}, trafficParity := none, trafficAcc := false
          alignedThroughout := false, accBefore := none, rxCount := 0, rxBits := [] }
        ∧ (t.line l).store = (s.line l).store
        ∧ (t.line l).framer = { (s.line l).framer with
            squelched := (s.line l).framer.squelched || ((s.line l).framer.inHand.map InHand.traffic).getD false }
        ∧ (t.line l).mon = { (s.line l).mon with
            otherwise := false
            latched := { (s.line l).mon.latched with lof := (s.line l).mon.latched.lof || !(s.line l).lrx.lof }
            wtr := if (s.line l).mon.otherwise then 16 * (s.lineSetup l).wtrCode else (s.line l).mon.wtr
            candidate := (s.line l).mon.candidate && !(s.line l).mon.otherwise }
        ∧ ((s.line l).mon.otherwise = true → s.selected = some l → t.selected = none ∧ t.lostNotice = some l)
        ∧ (s.selected ≠ some l →
            t.selected = s.selected ∧ t.lostNotice = s.lostNotice ∧ t.gradeNotice = s.gradeNotice)
        ∧ OnlyLineAndSelection l s t)
      ∧ (s.running = true → (s.line l).lrx.align = .dark → (s.line l).lrx.lof = true →
    Completes (exec (.firstClockEdge l bit) s) fun t =>
      t.line l = { s.line l with lrx := { (s.line l).lrx with
          align := .search, edgeWatch := 0, searchBits := 1, scan := [bit], held := [], candidate := none } }
        ∧ OnlyLine l s t)
      ∧ (Idling s → s.running = true →
        Completes (step s) fun t =>
          (clockEdge s l = true → (s.line l).lrx.align ≠ .off →
            (t.line l).lrx.edgeWatch = 0 ∧ .edgeWatchExpiry l ∉ t.due
              ∧ (.firstClockEdge l (s.pins.lineData.getLsbD l.val) ∈ t.due ↔ (s.line l).lrx.align = .dark))
          ∧ (clockEdge s l = false →
            (t.line l).lrx = { (s.line l).lrx with
                clockSeen := s.pins.lineClock.getLsbD l.val
                edgeWatch := if (s.line l).lrx.align = .off ∨ (s.line l).lrx.align = .dark ∨ 3670 ≤ (s.line l).lrx.edgeWatch
                  then (s.line l).lrx.edgeWatch else (s.line l).lrx.edgeWatch + 1 }
              ∧ (.edgeWatchExpiry l ∈ t.due ↔ (s.line l).lrx.align ≠ .off ∧ (s.line l).lrx.align ≠ .dark
                ∧ (s.line l).lrx.edgeWatch = 3669)))

/-- SEARCH_TIMER_EXPIRY (R8): whatever bits come before the expiry, a line still in SEARCH or CHECK has LOF live; without
bits the timer stands at 4608, whatever it stood at (the model's choice, log 3), LOF is live and newly latched, and nothing else moves. -/
def Obligations.SearchTimerExpiryAssertsLof : Prop :=
  ∀ (l : LineNo) (bits : List Bool) (s : State), s.running = true →
    ((s.line l).lrx.align = .search ∨ (s.line l).lrx.align = .check) →
    (Completes (exec (.searchTimerExpiry l bits) s) fun t =>
      ((t.line l).lrx.align = .search ∨ (t.line l).lrx.align = .check → (t.line l).lrx.lof = true)
        ∧ ((t.line l).lrx.align = .search ∨ (t.line l).lrx.align = .check ∨ (t.line l).lrx.align = .aligned)
        ∧ OnlyLineAndSelection l s t)
      ∧ ((s.line l).mon.otherwise = false → (s.line l).lrx.lof = false →
        Completes (exec (.searchTimerExpiry l []) s) fun t =>
          t.line l = { s.line l with
              lrx := { (s.line l).lrx with searchBits := 4608, lof := true }
              mon := { (s.line l).mon with latched := { (s.line l).mon.latched with lof := true } } }
            ∧ OnlyLine l s t)

/-- CANDIDATE_TAKEN (R4, R8): in SEARCH the first bit at which the eight latest bits read 6BH takes the candidate, whose eight
bits are held; bits that hold no match leave the last eight of them to the scan; the timer counts every bit. One bit, as the clockwork
brings it, is scanned in the same way, and at the bit that brings the timer to 16 periods LOF is asserted and latched. -/
def Obligations.CandidateTakenAtFirstMatch : Prop :=
  ∀ (l : LineNo) (bits : List Bool) (s : State), s.running = true → (s.line l).lrx.align = .search →
    (s.line l).lrx.held = [] → (s.line l).lrx.scan.length ≤ 8 →
    (bits ≠ [] →
    ((s.line l).lrx.lof = true ∨ ((s.line l).lrx.failed < 8 ∧ (s.line l).lrx.searchBits + bits.length < 4608)) →
    (∀ k, 0 < k → k < bits.length →
      ((s.line l).lrx.scan ++ bits.take k).drop ((s.line l).lrx.scan.length + k - 8) ≠ octetBits 0x6B#8) →
    (((s.line l).lrx.scan ++ bits).drop ((s.line l).lrx.scan.length + bits.length - 8) = octetBits 0x6B#8 →
    Completes (exec (.candidateTaken l bits) s) fun t =>
      t.line l = { s.line l with lrx := { (s.line l).lrx with
          scan := [], held := octetBits 0x6B#8, edgeWatch := 0
          searchBits := if (s.line l).lrx.searchBits < 4608 then min 4608 ((s.line l).lrx.searchBits + bits.length)
            else (s.line l).lrx.searchBits } }
        ∧ OnlyLine l s t)
      ∧ (((s.line l).lrx.scan ++ bits).drop ((s.line l).lrx.scan.length + bits.length - 8) ≠ octetBits 0x6B#8 →
    Completes (exec (.candidateTaken l bits) s) fun t =>
      t.line l = { s.line l with lrx := { (s.line l).lrx with
          scan := ((s.line l).lrx.scan ++ bits).drop ((s.line l).lrx.scan.length + bits.length - 8), edgeWatch := 0
          searchBits := if (s.line l).lrx.searchBits < 4608 then min 4608 ((s.line l).lrx.searchBits + bits.length)
            else (s.line l).lrx.searchBits } }
        ∧ OnlyLine l s t))
      ∧ ((s.line l).mon.otherwise = false → (s.line l).lrx.failed < 8 → (s.line l).lrx.searchBits ≤ 4608 →
        ∀ b w, w = ((s.line l).lrx.scan ++ [b]).drop ((s.line l).lrx.scan.length + 1 - 8) →
          Completes (exec (.candidateTaken l [b]) s) fun t =>
            t.line l = (s.line l).counted
                { (s.line l).lrx with
                  scan := if w = octetBits 0x6B#8 then [] else w, held := if w = octetBits 0x6B#8 then w else [] }
              ∧ OnlyLine l s t)

/-- CANDIDATE_SERVICE_OCTET (R4, R8): the next eight bits are the candidate's service octet; its frame count is taken and the
line enters CHECK with no confirmations. One bit of it, as the clockwork brings it, joins the bits held, and the eighth does so too; at
the bit that brings the timer to 16 periods LOF is asserted and latched. -/
def Obligations.CandidateServiceOctetEntersCheck : Prop :=
  ∀ (l : LineNo) (o : Octet) (s : State), s.running = true → (s.line l).lrx.align = .search →
    ((s.line l).lrx.held.length = 8 →
    ((s.line l).lrx.lof = true ∨ ((s.line l).lrx.failed < 8 ∧ (s.line l).lrx.searchBits + 8 < 4608)) →
    Completes (exec (.candidateServiceOctet l (octetBits o)) s) fun t =>
      (t.line l).lrx.align = .check ∧ (t.line l).lrx.held = (s.line l).lrx.held ++ octetBits o
        ∧ (t.line l).lrx.candidate = some ⟨BitVec.ofNat 2 (o.toNat / 2), 0⟩
        ∧ (t.line l).lrx.lof = (s.line l).lrx.lof ∧ (t.line l).lrx.failed = (s.line l).lrx.failed
        ∧ (t.line l).store = (s.line l).store ∧ (t.line l).framer = (s.line l).framer ∧ (t.line l).mon = (s.line l).mon
        ∧ OnlyLine l s t)
      ∧ ((s.line l).mon.otherwise = false → (s.line l).lrx.failed < 8 → (s.line l).lrx.searchBits ≤ 4608 →
        8 ≤ (s.line l).lrx.held.length → (s.line l).lrx.held.length ≤ 15 → ∀ b,
          Completes (exec (.candidateServiceOctet l [b]) s) fun t =>
            t.line l = (s.line l).counted
                (if (s.line l).lrx.held.length = 15 then
                  { (s.line l).lrx with
                    held := (s.line l).lrx.held ++ [b], align := .check
                    candidate := some ⟨BitVec.ofNat 2 ((bitsOctet ((s.line l).lrx.held.drop 8 ++ [b])).toNat / 2), 0⟩ }
                else { (s.line l).lrx with held := (s.line l).lrx.held ++ [b] })
              ∧ OnlyLine l s t)

/-- CONFIRMATION_POINT with its tests passed (R5, R8, R20, R21, R27): at the first point the count that is one more than the last
confirmed gives one confirmation and its own count; at the second the line enters ALIGNED, LOF is released, the runs and the window
are cleared, grade 6 and the far-end flag are set, W is moved to a cell boundary, every cell is STALE, and a recentre request with
cause ALIGNED is held. A bit of CHECK at which no test stands, or which ends an alignment word that is good, joins the bits held. -/
def Obligations.ConfirmationsLeadToAligned : Prop :=
  ∀ (l : LineNo) (b : Bool) (c : Candidate) (s : State),
    (s.running = true → (s.line l).lrx.align = .check →
    (s.line l).lrx.candidate = some c → (s.line l).lrx.held.length = 303 →
    serviceCount (bitsOctet ((s.line l).lrx.held.drop 296 ++ [b])) = c.frameCount + 1#2 →
    ((s.line l).lrx.lof = true ∨ ((s.line l).lrx.failed < 8 ∧ (s.line l).lrx.searchBits + 1 < 4608)) →
    Completes (exec (.confirmationPoint l [b]) s) fun t =>
      (t.line l).lrx.align = .check ∧ (t.line l).lrx.candidate = some ⟨c.frameCount + 1#2, 1⟩
        ∧ (t.line l).lrx.held = (s.line l).lrx.held ++ [b] ∧ (t.line l).lrx.failed = (s.line l).lrx.failed
        ∧ (t.line l).lrx.lof = (s.line l).lrx.lof
        ∧ (t.line l).store = (s.line l).store ∧ (t.line l).framer = (s.line l).framer ∧ (t.line l).mon = (s.line l).mon
        ∧ OnlyLine l s t)
      ∧ (s.running = true → (s.line l).lrx.align = .check →
    (s.line l).lrx.candidate = some c → (s.line l).lrx.held.length = 591 →
    serviceCount (bitsOctet ((s.line l).lrx.held.drop 584 ++ [b])) = c.frameCount + 1#2 →
    Completes (exec (.confirmationPoint l [b]) s) fun t =>
      (t.line l).lrx.align = .aligned ∧ (t.line l).lrx.lof = false ∧ (t.line l).lrx.failed = 0
        ∧ (t.line l).lrx.held = [] ∧ (t.line l).lrx.candidate = none ∧ (t.line l).lrx.wordWindow = []
        ∧ (t.line l).lrx.gradeRun = {} ∧ (t.line l).lrx.farRun = {} ∧ (t.line l).lrx.grade = 6
        ∧ (t.line l).lrx.farEnd = true ∧ (t.line l).lrx.trafficParity = none
        ∧ (t.line l).lrx.acc = (s.line l).lrx.acc ∧ (t.line l).lrx.alignedThroughout = (s.line l).lrx.alignedThroughout
        ∧ (t.line l).lrx.parityCount = (s.line l).lrx.parityCount ∧ (t.line l).lrx.prevPhase = (s.line l).lrx.prevPhase
        ∧ (t.line l).store.w.val % 36 = 0
        ∧ (t.line l).store.w.val = (if (s.line l).store.w.val % 36 = 0 then (s.line l).store.w.val
            else (36 * ((s.line l).store.w.val / 36 + 1)) % 288)
        ∧ (∀ k, (t.line l).store.fresh.get k = false) ∧ (t.line l).store.request = some .aligned
        ∧ (t.line l).store = { (s.line l).store with
            w := (t.line l).store.w, fresh := (t.line l).store.fresh, request := some .aligned }
        ∧ (t.line l).framer = (s.line l).framer ∧ (t.line l).mon.otherwise = false
        ∧ OnlyLineAndSelection l s t)
      ∧ (s.running = true → (s.line l).lrx.align = .check → (s.line l).lrx.candidate = some c →
    (s.line l).mon.otherwise = false → (s.line l).lrx.failed < 8 → (s.line l).lrx.searchBits ≤ 4608 →
    (s.line l).lrx.held.length ≠ 303 → (s.line l).lrx.held.length ≠ 591 →
    ((s.line l).lrx.held.length = 295 ∨ (s.line l).lrx.held.length = 583 →
      bitsOctet ((s.line l).lrx.held.drop ((s.line l).lrx.held.length - 7) ++ [b]) = 0x6B#8) →
    Completes (exec (.confirmationPoint l [b]) s) fun t =>
      t.line l = (s.line l).counted { (s.line l).lrx with held := (s.line l).lrx.held ++ [b] } ∧ OnlyLine l s t)

/-- CONFIRMATION_POINT, a failed test (R6): a word that is not 6BH, or a count that does not advance, counts a failed
candidate, and SEARCH goes on from the bit after the candidate's first: whatever the fuel, the hunt over the bits held behind it, the
last line bit among them, gives the receiver, which has a new candidate where those bits hold one. Where they hold none they are
dropped, and the last eight of them still stand in the scan window for the next comparison (log 6). LOF is asserted where eight
candidates have failed or the search timer stands at 16 periods. -/
def Obligations.FailedCandidateIsCounted : Prop :=
  ∀ (l : LineNo) (b : Bool) (c : Candidate) (s : State), s.running = true → (s.line l).lrx.align = .check →
    (s.line l).lrx.candidate = some c → (s.line l).lrx.failed ≤ 8 → (s.line l).lrx.searchBits ≤ 4608 →
    (((s.line l).lrx.held.length = 295 ∨ (s.line l).lrx.held.length = 583)
        ∧ bitsOctet ((s.line l).lrx.held.drop ((s.line l).lrx.held.length - 7) ++ [b]) ≠ 0x6B#8)
      ∨ (((s.line l).lrx.held.length = 303 ∨ (s.line l).lrx.held.length = 591)
        ∧ serviceCount (bitsOctet ((s.line l).lrx.held.drop ((s.line l).lrx.held.length - 7) ++ [b])) ≠ c.frameCount + 1#2) →
    Completes (exec (.confirmationPoint l [b]) s) fun t =>
      (∀ n again, 594 * 594 ≤ n →
        again = huntBits n
          { (s.line l).lrx with
            align := .search, edgeWatch := 0, candidate := none, held := [], scan := []
            failed := min 8 ((s.line l).lrx.failed + 1), searchBits := min 4608 ((s.line l).lrx.searchBits + 1) }
          ((s.line l).lrx.held ++ [b]).tail →
        again.2 = false
          ∧ (t.line l).lrx = { again.1 with
            lof := (s.line l).lrx.lof || decide (again.1.failed = 8) || decide ((s.line l).lrx.searchBits + 1 ≥ 4608) })
        ∧ ((t.line l).lrx.align = .search ∨ (t.line l).lrx.align = .check)
        ∧ min 8 ((s.line l).lrx.failed + 1) ≤ (t.line l).lrx.failed
        ∧ ((∀ k, (((s.line l).lrx.held ++ [b]).tail.drop k).take 8 ≠ octetBits 0x6B#8) →
          (t.line l).lrx.align = .search ∧ (t.line l).lrx.held = [] ∧ (t.line l).lrx.failed = min 8 ((s.line l).lrx.failed + 1)
            ∧ (t.line l).lrx.scan = ((s.line l).lrx.held ++ [b]).drop ((s.line l).lrx.held.length - 7))
        ∧ (t.line l).store = (s.line l).store ∧ (t.line l).framer = (s.line l).framer
        ∧ OnlyLineAndSelection l s t

/-- FRAME_START_STAMP (R14, R15): the floor time that stands joins the epoch's accumulation, as its first stamp or as a
wrapped offset from it. What the accumulation was is kept for a withdrawal (log 7). In the clockwork the stamp falls due in the very
period in which the first bit of a frame is sampled, the first frame beginning 272 bits after the entry to ALIGNED (R5; log 16), and
that period's floor time is the one that stands. -/
def Obligations.FrameStartIsStamped : Prop :=
  ∀ (l : LineNo) (s : State),
    (s.running = true → (s.line l).lrx.align = .aligned →
    Completes (exec (.frameStartStamp l) s) fun t =>
      ((s.line l).lrx.acc.s0 = none → (t.line l).lrx.acc = ⟨some s.floor.time, 0, 1⟩)
        ∧ (∀ s0, (s.line l).lrx.acc.s0 = some s0 →
            (t.line l).lrx.acc = ⟨some s0, (s.line l).lrx.acc.sum + wrap ((s.floor.time : Int) - s0), (s.line l).lrx.acc.count + 1⟩)
        ∧ t.line l = { s.line l with lrx := { (s.line l).lrx with
            edgeWatch := 0, acc := (t.line l).lrx.acc, accBefore := some (s.line l).lrx.acc } }
        ∧ OnlyLine l s t)
      ∧ (Idling s → s.running = true → s.floor.kind = .normal → s.floor.shift = none → s.floor.time < 32768 →
        Completes (step s) fun t =>
          t.floor.time = (s.floor.time + 1) % 32768 ∧ (t.line l).lrx.acc = (s.line l).lrx.acc
            ∧ (.frameStartStamp l ∈ t.due ↔ clockEdge s l = true ∧ (s.line l).lrx.align = .aligned
              ∧ 272 ≤ (s.line l).lrx.rxCount ∧ ((s.line l).lrx.rxCount - 272) % 288 = 0))

/-- ALIGNMENT_WORD_CHECK (R7, R14, R32, R52, R59): with fewer than three of the last four words errored the result joins the
window; at the third the line leaves ALIGNED for SEARCH, the frame's start is withdrawn, unless an epoch close fell between it and
its word (the model's choice, log 7), the grade is 6 and the far-end flag set, the
runs, the window and the traffic parity go, the search timer starts from 0, and a selected line that was otherwise qualified is
dropped. -/
def Obligations.WordWindowHoldsAlignment : Prop :=
  ∀ (l : LineNo) (word : Octet) (s : State),
    (s.running = true → (s.line l).lrx.align = .aligned →
    ((s.line l).lrx.wordWindow.take 3).count true + (if word = 0x6B#8 then 0 else 1) < 3 →
    Completes (exec (.alignmentWordCheck l word) s) fun t =>
      t.line l = { s.line l with lrx := { (s.line l).lrx with
          edgeWatch := 0, accBefore := none
          wordWindow := decide (word ≠ 0x6B#8) :: (s.line l).lrx.wordWindow.take 3 } }
        ∧ OnlyLine l s t)
      ∧ (s.running = true → (s.line l).lrx.align = .aligned →
    3 ≤ ((s.line l).lrx.wordWindow.take 3).count true + (if word = 0x6B#8 then 0 else 1) →
    Completes (exec (.alignmentWordCheck l word) s) fun t =>
      (t.line l).lrx = { (s.line l).lrx with
          align := .search, edgeWatch := 0, grade := 6, farEnd := true, gradeRun := {}, farRun := {}, wordWindow := []
          trafficParity := none, trafficAcc := false, alignedThroughout := false, searchBits := 0, scan := [], held := []
          candidate := none, acc := (s.line l).lrx.accBefore.getD (s.line l).lrx.acc, accBefore := none, rxCount := 0
          rxBits := [] }
        ∧ (t.line l).store = (s.line l).store
        ∧ (t.line l).framer = { (s.line l).framer with
            squelched := (s.line l).framer.squelched || ((s.line l).framer.inHand.map InHand.traffic).getD false }
        ∧ (t.line l).mon = { (s.line l).mon with
            otherwise := false
            wtr := if (s.line l).mon.otherwise then 16 * (s.lineSetup l).wtrCode else (s.line l).mon.wtr
            candidate := (s.line l).mon.candidate && !(s.line l).mon.otherwise }
        ∧ ((s.line l).mon.otherwise = true → s.selected = some l → t.selected = none ∧ t.lostNotice = some l)
        ∧ (s.selected ≠ some l →
            t.selected = s.selected ∧ t.lostNotice = s.lostNotice ∧ t.gradeNotice = s.gradeNotice)
        ∧ OnlyLineAndSelection l s t)

/-- SERVICE_OCTET_DECODE (R9, R10, R11, R13): the run of equal codes grows to 4 and then makes the code's grade the accepted
grade, the far-end run likewise, and a parity bit that differs from the traffic parity kept is counted. A new grade of a line that
stays selected is sent as a grade notice, and a line that no longer qualifies is dropped with its notice of loss (R52, R58, R59). The
octet of a frame whose word was errored has no effect. -/
def Obligations.ServiceOctetIsDecoded : Prop :=
  ∀ (l : LineNo) (o : Octet) (s : State), s.running = true → (s.line l).lrx.align = .aligned →
    ((s.line l).lrx.wordWindow.head? = some true → exec (.serviceOctetDecode l o) s = .next s)
      ∧ ((s.line l).lrx.wordWindow.head? ≠ some true →
    Completes (exec (.serviceOctetDecode l o) s) fun t =>
      (t.line l).lrx.gradeRun =
          ⟨some (BitVec.ofNat 3 (o.toNat / 32)),
            if (s.line l).lrx.gradeRun.last = some (BitVec.ofNat 3 (o.toNat / 32))
              then (if (s.line l).lrx.gradeRun.length < 4 then (s.line l).lrx.gradeRun.length + 1 else (s.line l).lrx.gradeRun.length)
              else 1⟩
        ∧ (t.line l).lrx.farRun =
          ⟨some (o.getLsbD 4),
            if (s.line l).lrx.farRun.last = some (o.getLsbD 4)
              then (if (s.line l).lrx.farRun.length < 4 then (s.line l).lrx.farRun.length + 1 else (s.line l).lrx.farRun.length)
              else 1⟩
        ∧ (t.line l).lrx.grade = (if (t.line l).lrx.gradeRun.length = 4
            then (if o.toNat / 32 = 0 ∨ o.toNat / 32 = 7 then 6 else o.toNat / 32) else (s.line l).lrx.grade)
        ∧ (t.line l).lrx.farEnd = (if (t.line l).lrx.farRun.length = 4 then o.getLsbD 4 else (s.line l).lrx.farEnd)
        ∧ (t.line l).lrx.parityCount =
          (if (s.line l).lrx.trafficParity = some (!o.getLsbD 3) ∧ (s.line l).lrx.parityCount < 255
            then (s.line l).lrx.parityCount + 1 else (s.line l).lrx.parityCount)
        ∧ (t.line l).lrx = { (s.line l).lrx with
            edgeWatch := 0, gradeRun := (t.line l).lrx.gradeRun, farRun := (t.line l).lrx.farRun
            grade := (t.line l).lrx.grade, farEnd := (t.line l).lrx.farEnd, parityCount := (t.line l).lrx.parityCount }
        ∧ (t.line l).store = (s.line l).store ∧ (t.line l).framer = (s.line l).framer
        ∧ OnlyLineAndSelection l s t
        ∧ (t.selected = some l → (t.line l).lrx.grade ≠ (s.line l).lrx.grade →
            t.gradeNotice = some (l, (t.line l).lrx.grade) ∧ t.lostNotice = s.lostNotice)
        ∧ ((t.line l).lrx.grade = (s.line l).lrx.grade ∨ s.selected ≠ some l → t.gradeNotice = s.gradeNotice)
        ∧ (s.selected = some l → (s.line l).mon.otherwise = true →
            ((t.line l).lrx.grade ≠ (s.line l).lrx.grade ∨ (t.line l).lrx.farEnd ≠ (s.line l).lrx.farEnd) →
            ((t.line l).lrx.grade = 6 ∨ (t.line l).lrx.farEnd = true) → t.selected = none ∧ t.lostNotice = some l)
        ∧ (s.selected ≠ some l → t.selected = s.selected ∧ t.lostNotice = s.lostNotice))

/-- LINE_OCTET_WRITE (R12, R20, R21): the octet is written at W, W advances modulo 288, octet 0 turns its cell FRESH, no other octet
or mark of the store changes, and the exclusive-or of the bits of octets 2..35 becomes the traffic parity with octet 35. -/
def Obligations.LineOctetIsWritten : Prop :=
  ∀ (l : LineNo) (o : Octet) (s : State), s.running = true → (s.line l).lrx.align = .aligned →
    Completes (exec (.lineOctetWrite l o) s) fun t =>
      (∀ k, (t.line l).store.cells.get k = if k = (s.line l).store.w then o else (s.line l).store.cells.get k)
        ∧ (t.line l).store.w.val = ((s.line l).store.w.val + 1) % 288
        ∧ (∀ c : Fin 8, (t.line l).store.fresh.get c
            = ((s.line l).store.fresh.get c || decide (36 * c.val = (s.line l).store.w.val)))
        ∧ (t.line l).store = { (s.line l).store with
            cells := (t.line l).store.cells, w := (t.line l).store.w, fresh := (t.line l).store.fresh }
        ∧ (t.line l).lrx = { (s.line l).lrx with
            edgeWatch := 0, trafficAcc := (t.line l).lrx.trafficAcc, trafficParity := (t.line l).lrx.trafficParity }
        ∧ (t.line l).lrx.trafficAcc = (if (s.line l).store.w.val % 36 < 2 then false
            else (s.line l).lrx.trafficAcc.xor ((octetBits o).foldl Bool.xor false))
        ∧ (t.line l).lrx.trafficParity = (if (s.line l).store.w.val % 36 = 35 then some (t.line l).lrx.trafficAcc
            else (s.line l).lrx.trafficParity)
        ∧ (t.line l).framer = (s.line l).framer ∧ (t.line l).mon = (s.line l).mon ∧ OnlyLine l s t

/-- RECEIVER_EPOCH_CLOSE (R13, R15, R16, R17): the line phase and the drift of the ending epoch are handed with the parity
count, each only where it is valid, and a new accumulation opens, with nothing of the old one left to withdraw (log 7). The jump flag of
the new epoch is the notice taken ahead of the close (log 26). -/
def Obligations.ReceiverClosesEpoch : Prop :=
  ∀ (l : LineNo) (s : State), s.running = true → s.enabled l = true →
    Completes (exec (.receiverEpochClose l) s) fun t =>
      (∀ p, (t.line l).mon.handedPhase = some p ↔
          ((s.line l).lrx.alignedThroughout = true ∧ (s.line l).lrx.jumpFlag = false ∧ 0 < (s.line l).lrx.acc.count
            ∧ ∃ s0, (s.line l).lrx.acc.s0 = some s0
              ∧ (p : Int) = (s0 + roundDiv (s.line l).lrx.acc.sum (s.line l).lrx.acc.count) % 32768))
        ∧ (∀ d, (t.line l).mon.handedDrift = some d ↔
            ∃ p q : Nat, (t.line l).mon.handedPhase = some p ∧ (s.line l).lrx.prevPhase = some q ∧ d = wrap ((p : Int) - q))
        ∧ (t.line l).mon.handedParity = (s.line l).lrx.parityCount
        ∧ (t.line l).mon = { (s.line l).mon with
            handedPhase := (t.line l).mon.handedPhase, handedDrift := (t.line l).mon.handedDrift
            handedParity := (t.line l).mon.handedParity }
        ∧ (t.line l).lrx = { (s.line l).lrx with
            prevPhase := (t.line l).mon.handedPhase, parityCount := 0, acc := ⟨none, 0, 0⟩, accBefore := none
            alignedThroughout := decide ((s.line l).lrx.align = .aligned), jumpFlag := (s.line l).lrx.jumpAhead
            jumpAhead := false }
        ∧ (t.line l).store = (s.line l).store ∧ (t.line l).framer = (s.line l).framer
        ∧ t.due = s.due.erase (.receiverEpochClose l) ∧ OnlyLine l { s with due := t.due } t

/-! ### Elastic stores and framers -/

/-- READ_MARK with the fill beyond the same threshold for the second time (R22 to R26): below slip-low a REPEAT hands the cell
before again, N stands where it stood and the fill after is 36 higher; above slip-high a DELETE skips a cell and the fill after is 36
lower; either is counted and logged. A record joins the log as its newest under the next sequence; a log that holds 64 loses its oldest,
which is counted (R156). That the boundary is an epoch mark is told by frame-in-epoch 0 (log 34). -/
def Obligations.SlipsMoveReadCell : Prop :=
  ∀ (l : LineNo) (f : Nat) (s : State),
    (s.running = true → s.enabled l = true → s.isAligned l = true → s.steered = true →
    (s.line l).store.request = none → f = ((s.line l).store.w.val + 288 - 36 * (s.line l).store.n.val) % 288 →
    f < (s.lineSetup l).slipLow → (s.lineSetup l).slipLow ≤ 135 → (s.line l).store.repeatPending = true →
    (s.line l).store.slipTotal ≤ 65535 → (s.line l).store.epochSlips ≤ 255 →
    Completes (exec (.readMark l) s) fun t =>
      (t.line l).store = { (s.line l).store with
          n := (s.line l).store.n, fill := f + 36, repeatPending := false, deletePending := false
          slipTotal := min 65535 ((s.line l).store.slipTotal + 1)
          epochSlips := min 255 ((if s.floor.frame = 0 then 0 else (s.line l).store.epochSlips) + 1)
          excess := (t.line l).store.excess }
        ∧ (t.line l).framer.inHand.map InHand.cell = some ((s.line l).store.n - 1)
        ∧ t.log = s.log.add .slipRepeat l s.floor.epoch f (f + 36) (s.line l).lrx.grade
        ∧ (t.line l).lrx = (s.line l).lrx ∧ OnlyReadMark l s t)
      ∧ (s.running = true → s.enabled l = true → s.isAligned l = true → s.steered = true →
    (s.line l).store.request = none → f = ((s.line l).store.w.val + 288 - 36 * (s.line l).store.n.val) % 288 →
    (s.lineSetup l).slipHigh < f → 153 ≤ (s.lineSetup l).slipHigh → (s.lineSetup l).slipLow ≤ 135 →
    (s.line l).store.deletePending = true → (s.line l).store.slipTotal ≤ 65535 → (s.line l).store.epochSlips ≤ 255 →
    Completes (exec (.readMark l) s) fun t =>
      (t.line l).store = { (s.line l).store with
          n := (s.line l).store.n + 2, fill := f - 36, repeatPending := false, deletePending := false
          slipTotal := min 65535 ((s.line l).store.slipTotal + 1)
          epochSlips := min 255 ((if s.floor.frame = 0 then 0 else (s.line l).store.epochSlips) + 1)
          excess := (t.line l).store.excess }
        ∧ (t.line l).framer.inHand.map InHand.cell = some ((s.line l).store.n + 1)
        ∧ t.log = s.log.add .slipDelete l s.floor.epoch f (f - 36) (s.line l).lrx.grade
        ∧ (t.line l).lrx = (s.line l).lrx ∧ OnlyReadMark l s t)
      ∧ (∀ (g : Log) (kind : RecordKind) (epoch before after grade : Nat),
        (g.records.length < 64 →
          g.add kind l epoch before after grade
            = ⟨g.records ++ [⟨g.next, kind, l, epoch, before, after, grade⟩], (g.next + 1) % 65536, g.overwrites⟩)
        ∧ (64 ≤ g.records.length →
          g.add kind l epoch before after grade
            = ⟨g.records.tail ++ [⟨g.next, kind, l, epoch, before, after, grade⟩], (g.next + 1) % 65536,
                if g.overwrites < 255 then g.overwrites + 1 else g.overwrites⟩))

/-- READ_MARK without a slip or a recentre (R22, R23, R37): inside the thresholds, or with the decision passed over, both
pending flags are cleared; a first reading beyond a threshold sets its own flag and clears the other; a request held by a line
that is not ALIGNED is discarded; N advances by one and nothing is logged. That the boundary is an epoch mark is told by frame-in-epoch 0
(R64; log 34). -/
def Obligations.FirstReadingOnlyPends : Prop :=
  ∀ (l : LineNo) (f : Nat) (s : State), s.running = true → s.enabled l = true →
    (s.isAligned l = true → (s.line l).store.request = none) → f = ((s.line l).store.w.val + 288 - 36 * (s.line l).store.n.val) % 288 →
    (s.isAligned l = true → s.steered = true → f < (s.lineSetup l).slipLow → (s.line l).store.repeatPending = false) →
    (s.isAligned l = true → s.steered = true → (s.lineSetup l).slipHigh < f → (s.line l).store.deletePending = false) →
    (s.lineSetup l).slipLow ≤ (s.lineSetup l).slipHigh →
    Completes (exec (.readMark l) s) fun t =>
      (t.line l).store = { (s.line l).store with
          n := (s.line l).store.n + 1, fill := f, request := none
          repeatPending := s.isAligned l && s.steered && decide (f < (s.lineSetup l).slipLow)
          deletePending := s.isAligned l && s.steered && decide ((s.lineSetup l).slipHigh < f)
          epochSlips := if s.floor.frame = 0 then 0 else (s.line l).store.epochSlips
          excess := (s.line l).store.excess && !(s.floor.frame == 0 && (s.line l).store.epochSlips == 0) }
        ∧ (t.line l).framer.inHand.map InHand.cell = some (s.line l).store.n
        ∧ t.log = s.log ∧ (t.line l).lrx = (s.line l).lrx ∧ OnlyReadMark l s t

/-- READ_MARK with a recentre request (R28): N is the one cell that puts the fill in 126..161, both pending flags and the
request are cleared, a REALIGN record with the held cause is logged, and no slip is counted. That the boundary is an epoch mark is told
by frame-in-epoch 0 (R64; log 34). -/
def Obligations.RecentreCentresFill : Prop :=
  ∀ (l : LineNo) (cause : Cause) (s : State), s.running = true → s.enabled l = true → s.isAligned l = true →
    (s.line l).store.request = some cause →
    Completes (exec (.readMark l) s) fun t =>
      126 ≤ (t.line l).store.fill ∧ (t.line l).store.fill ≤ 161
        ∧ (∀ n : Fin 8, 126 ≤ ((s.line l).store.w.val + 288 - 36 * n.val) % 288 →
            ((s.line l).store.w.val + 288 - 36 * n.val) % 288 ≤ 161 →
            (t.line l).store.n = n + 1 ∧ (t.line l).framer.inHand.map InHand.cell = some n
              ∧ (t.line l).store.fill = ((s.line l).store.w.val + 288 - 36 * n.val) % 288)
        ∧ (t.line l).store = { (s.line l).store with
            n := (t.line l).store.n, fill := (t.line l).store.fill, repeatPending := false, deletePending := false
            request := none
            epochSlips := if s.floor.frame = 0 then 0 else (s.line l).store.epochSlips
            excess := (s.line l).store.excess && !(s.floor.frame == 0 && (s.line l).store.epochSlips == 0) }
        ∧ t.log = s.log.add (match cause with
            | .aligned => .realignAligned
            | .jump => .realignJump) l s.floor.epoch
            (((s.line l).store.w.val + 288 - 36 * (s.line l).store.n.val) % 288) (t.line l).store.fill (s.line l).lrx.grade
        ∧ (t.line l).lrx = (s.line l).lrx ∧ OnlyReadMark l s t

/-- EXCESS at a read mark (R29, R42): it is released when an epoch without a slip closes, and asserted, unless masked, at the
slip that makes the epoch's count exceed 4; the assertion latches its flag, disqualifies the line and makes the frame handed
there a fill frame with squelch reason LINE. That the epoch closes at this boundary is told by frame-in-epoch 0 (R64; log 34). -/
def Obligations.FifthSlipAssertsExcess : Prop :=
  ∀ (l : LineNo) (f count : Nat) (s : State), s.running = true → s.enabled l = true → s.isAligned l = true → s.steered = true →
    (s.line l).store.request = none → f = ((s.line l).store.w.val + 288 - 36 * (s.line l).store.n.val) % 288 →
    count = (if s.floor.frame = 0 then 0 else (s.line l).store.epochSlips) → count ≤ 255 →
    (f < (s.lineSetup l).slipLow ∧ (s.line l).store.repeatPending = true)
      ∨ (¬ f < (s.lineSetup l).slipLow ∧ (s.lineSetup l).slipHigh < f ∧ (s.line l).store.deletePending = true) →
    Completes (exec (.readMark l) s) fun t =>
      (t.line l).store.excess
          = ((s.line l).store.excess && !(s.floor.frame == 0 && (s.line l).store.epochSlips == 0)
            || !(s.lineSetup l).maskExcess && decide (4 < count + 1))
        ∧ ((s.line l).store.excess = false → (t.line l).store.excess = true →
            (t.line l).mon.latched.excess = true ∧ (t.line l).mon.otherwise = false)
        ∧ ((t.line l).store.excess = true →
            (t.line l).framer.inHand.map InHand.traffic = some false ∧ (t.line l).framer.reason = .line)
        ∧ OnlyReadMark l s t

/-- The frame decided at a read mark (R31, R35, R38): on an enabled line it carries traffic exactly when the floor is in ACQUIRE or
TRACK, the line is ALIGNED without EXCESS and the cell is FRESH; the squelch reason of a fill frame is LINE before FLOOR; the frame count
advances with every frame begun, and the parity of the frame that ends is kept. A disabled line's store keeps its values, and its frame
is a fill frame without a squelch reason. -/
def Obligations.FrameIsDecidedAtReadMark : Prop :=
  ∀ (l : LineNo) (s : State),
    (s.running = true → s.enabled l = true →
    Completes (exec (.readMark l) s) fun t =>
      (t.line l).framer = { (s.line l).framer with
          inHand := some ⟨(t.line l).store.n - 1,
            s.steered && s.isAligned l && !(t.line l).store.excess && (t.line l).store.fresh.get ((t.line l).store.n - 1)⟩
          reason :=
            if s.isAligned l = false ∨ (t.line l).store.excess = true
                ∨ (t.line l).store.fresh.get ((t.line l).store.n - 1) = false then .line
            else if s.steered then .none else .floor
          count := if (s.line l).framer.inHand.isSome then (s.line l).framer.count + 1 else (s.line l).framer.count
          parity := if (s.line l).framer.inHand.isSome then some (s.line l).framer.parityAcc else (s.line l).framer.parity
          squelched := false, octetIndex := none, parityAcc := false }
        ∧ (t.line l).lrx = (s.line l).lrx ∧ OnlyReadMark l s t)
      ∧ (s.running = true → s.enabled l = false →
    Completes (exec (.readMark l) s) fun t =>
      t.line l = { s.line l with framer := { (s.line l).framer with
          inHand := some ⟨(s.line l).store.n, false⟩, reason := .none
          count := if (s.line l).framer.inHand.isSome then (s.line l).framer.count + 1 else (s.line l).framer.count
          parity := if (s.line l).framer.inHand.isSome then some (s.line l).framer.parityAcc else (s.line l).framer.parity
          squelched := false, octetIndex := none, parityAcc := false } }
        ∧ t.log = s.log ∧ t.selected = s.selected ∧ OnlyReadMark l s t)

/-- The bit placed at a floor time (R30, R32, R33, R34, R35, R36): bit b goes out when floor time reaches floor(1024 b / 9); the
octet is the alignment word, the service octet built then, the cell's octet as it stands, or FFH, and an octet begun is
completed as it was. The service octet of an OFF line carries parity 0 (R38), in the frame after a jump too (log 22). An octet entered in
its middle, after a jump, is built at the first of its bits to go out (the model's choice, log 23). At a floor time that is no bit's
place, and with no frame in hand, nothing of the framer moves. In the clockwork each period outside LOADING makes every line's placing at
its floor time as it ends, and the output pin reads throughout it the bit so placed (log 25). -/
def Obligations.FramerSendsBitInPlace : Prop :=
  ∀ (l : LineNo) (s : State),
    (∀ (b : Nat) (h : InHand), b < 288 → s.floor.time = b * 1024 / 9 →
    (s.line l).framer.inHand = some h →
    ∃ o : Octet,
      o = (if (s.line l).framer.octetIndex = some (b / 8) then (s.line l).framer.octet
        else if b / 8 = 0 then 0x6B#8
        else if b / 8 = 1 then serviceOctet s.steer.announced (decide ((s.line l).framer.reason = .line))
          (s.enabled l && (s.line l).framer.parity.getD false) (s.line l).framer.count.val
        else if h.traffic = true ∧ (s.line l).framer.squelched = false ∧ s.floor.cut = false then
          (s.line l).store.cells.get (Fin.ofNat 288 (36 * h.cell.val + b / 8))
        else 0xFF#8)
      ∧ (frameBit l s).line l = { s.line l with framer := { (s.line l).framer with
          octetIndex := some (b / 8), octet := o, out := o.getLsbD (b % 8)
          parityAcc := if b / 8 < 2 then (s.line l).framer.parityAcc else ((s.line l).framer.parityAcc).xor (o.getLsbD (b % 8)) } }
      ∧ OnlyLine l s (frameBit l s) ∧ s.output l = o.getLsbD (b % 8))
      ∧ ((s.line l).framer.inHand = none ∨ (∀ b, b < 288 → s.floor.time ≠ b * 1024 / 9) →
        frameBit l s = s ∧ s.output l = (s.line l).framer.out)
      ∧ (Idling s → s.running = true → Completes (step s) fun t => (t.line l).framer = ((frameBit l s).line l).framer)
      ∧ (Idling s → s.running = false → Completes (step s) fun t => (t.line l).framer = (s.line l).framer)

/-! ### Line monitors and the selector -/

/-- MONITOR_EPOCH_WORK, steps 1 and 4 (R41, R42, R46): DEGRADED stands after it exactly when the handed parity count exceeds the
limit (a masked one is not asserted), and the ending epoch's drift is kept. -/
def Obligations.ParityCountSetsDegraded : Prop :=
  ∀ (s : State), s.running = true →
    Completes (exec .monitorEpochWork s) fun t =>
      (∀ l, s.enabled l = true →
        (t.line l).mon.degraded = (if (s.lineSetup l).parityLimit < (s.line l).mon.handedParity
            then (s.line l).mon.degraded || !(s.lineSetup l).maskDegraded else false)
          ∧ ((t.line l).mon.degraded = true → (s.line l).mon.degraded = false → (t.line l).mon.latched.degraded = true)
          ∧ (t.line l).mon.prevDrift = (s.line l).mon.handedDrift
          ∧ (t.line l).mon.handedPhase = (s.line l).mon.handedPhase ∧ (t.line l).mon.handedDrift = (s.line l).mon.handedDrift
          ∧ (t.line l).mon.handedParity = (s.line l).mon.handedParity ∧ (t.line l).mon.crossRun = (s.line l).mon.crossRun)
        ∧ OnlyMonitors s t

/-- MONITOR_EPOCH_WORK, WANDER (R42, R43): a change of drift beyond the limit asserts it and restarts its release run; the fourth
epoch in a row within the limit releases it; an invalid drift sets the run to 0. -/
def Obligations.DriftChangeSetsWander : Prop :=
  ∀ (s : State), s.running = true → (∀ l, (s.line l).mon.wanderRun ≤ 3) →
    Completes (exec .monitorEpochWork s) fun t =>
      (∀ l, s.enabled l = true →
        (∀ d p, (s.line l).mon.handedDrift = some d → (s.line l).mon.prevDrift = some p →
          (((s.lineSetup l).wanderLimit : Int) < |d - p| →
            (t.line l).mon.wander = ((s.line l).mon.wander || !(s.lineSetup l).maskWander) ∧ (t.line l).mon.wanderRun = 0
              ∧ ((t.line l).mon.wander = true → (s.line l).mon.wander = false → (t.line l).mon.latched.wander = true))
          ∧ (|d - p| ≤ ((s.lineSetup l).wanderLimit : Int) → (s.line l).mon.wander = true →
            if (s.line l).mon.wanderRun = 3 then (t.line l).mon.wander = false ∧ (t.line l).mon.wanderRun = 0
            else (t.line l).mon.wander = true ∧ (t.line l).mon.wanderRun = (s.line l).mon.wanderRun + 1)
          ∧ (|d - p| ≤ ((s.lineSetup l).wanderLimit : Int) → (s.line l).mon.wander = false → (t.line l).mon.wander = false))
        ∧ ((s.line l).mon.handedDrift = none ∨ (s.line l).mon.prevDrift = none →
            (t.line l).mon.wander = (s.line l).mon.wander ∧ (t.line l).mon.wanderRun = 0))
        ∧ OnlyMonitors s t

/-- MONITOR_EPOCH_WORK, DIVERGE (R42, R44, R45): the reference is the valid drift of smallest magnitude, the lower line on a tie;
a drift further from it than the line's limit asserts DIVERGE; the fourth epoch in a row within the limit releases it; an
invalid drift sets the run to 0. -/
def Obligations.DriftFromReferenceSetsDiverge : Prop :=
  ∀ (s : State), s.running = true → (∀ l, (s.line l).mon.divergeRun ≤ 3) →
    Completes (exec .monitorEpochWork s) fun t =>
      (∀ m r, s.enabled m = true → (s.line m).mon.handedDrift = some r →
        (∀ k x, s.enabled k = true → (s.line k).mon.handedDrift = some x → |r| < |x| ∨ (|r| = |x| ∧ m ≤ k)) →
        ∀ l d, s.enabled l = true → (s.line l).mon.handedDrift = some d →
          (((s.lineSetup l).divergeLimit : Int) < |d - r| →
            (t.line l).mon.diverge = ((s.line l).mon.diverge || !(s.lineSetup l).maskDiverge) ∧ (t.line l).mon.divergeRun = 0
              ∧ ((t.line l).mon.diverge = true → (s.line l).mon.diverge = false → (t.line l).mon.latched.diverge = true))
          ∧ (|d - r| ≤ ((s.lineSetup l).divergeLimit : Int) → (s.line l).mon.diverge = true →
            if (s.line l).mon.divergeRun = 3 then (t.line l).mon.diverge = false ∧ (t.line l).mon.divergeRun = 0
            else (t.line l).mon.diverge = true ∧ (t.line l).mon.divergeRun = (s.line l).mon.divergeRun + 1)
          ∧ (|d - r| ≤ ((s.lineSetup l).divergeLimit : Int) → (s.line l).mon.diverge = false → (t.line l).mon.diverge = false))
        ∧ (∀ l, s.enabled l = true → (s.line l).mon.handedDrift = none →
            (t.line l).mon.diverge = (s.line l).mon.diverge ∧ (t.line l).mon.divergeRun = 0)
        ∧ OnlyMonitors s t

/-- CROSSCHECK (R42, R47, R48): only an OVER for an unmasked line without CROSSCHECK counts, the fourth in a row asserts and latches
it, and every other line's run goes to 0. In MONITOR_EPOCH_WORK the fourth epoch in a row with a valid drift of at most 32 fu releases
it, and any other epoch sets the release run to 0. The run stays at 4 after the assertion (the model's choice, log 18). The middle part
speaks of the monitors' taking of a verdict (takeVerdict), which EPOCH_MARK makes for every enabled line; the last says of EPOCH_MARK
which verdict it hands over, what comes of it, and what the crosscheck record takes (R97, R98). -/
def Obligations.CrosscheckIsAssertedAndReleased : Prop :=
  ∀ (l : LineNo) (verdict : Option LineNo) (s : State),
    (s.running = true → (∀ l, (s.line l).mon.crossReleaseRun ≤ 3) →
    Completes (exec .monitorEpochWork s) fun t =>
      (∀ l, s.enabled l = true → (s.line l).mon.crosscheck = true →
        (∀ d, (s.line l).mon.handedDrift = some d → |d| ≤ 32 →
          if (s.line l).mon.crossReleaseRun = 3 then (t.line l).mon.crosscheck = false ∧ (t.line l).mon.crossReleaseRun = 0
          else (t.line l).mon.crosscheck = true ∧ (t.line l).mon.crossReleaseRun = (s.line l).mon.crossReleaseRun + 1)
        ∧ (∀ d, (s.line l).mon.handedDrift = some d → 32 < |d| →
            (t.line l).mon.crosscheck = true ∧ (t.line l).mon.crossReleaseRun = 0)
        ∧ ((s.line l).mon.handedDrift = none → (t.line l).mon.crosscheck = true ∧ (t.line l).mon.crossReleaseRun = 0))
        ∧ (∀ l, (s.line l).mon.crosscheck = false → (t.line l).mon.crosscheck = false)
        ∧ OnlyMonitors s t)
      ∧ ((s.line l).mon.crossRun ≤ 3 →
    (verdict = some l → (s.line l).mon.crosscheck = false → (s.lineSetup l).maskCrosscheck = false →
        ((takeVerdict verdict s l).line l).mon.crossRun = (s.line l).mon.crossRun + 1
          ∧ ((takeVerdict verdict s l).line l).mon.crosscheck = decide ((s.line l).mon.crossRun = 3)
          ∧ ((s.line l).mon.crossRun = 3 → ((takeVerdict verdict s l).line l).mon.latched.crosscheck = true
              ∧ ((takeVerdict verdict s l).line l).mon.otherwise = false
              ∧ ((s.line l).mon.otherwise = true → s.selected = some l →
                (takeVerdict verdict s l).selected = none ∧ (takeVerdict verdict s l).lostNotice = some l)))
      ∧ (verdict ≠ some l ∨ (s.line l).mon.crosscheck = true ∨ (s.lineSetup l).maskCrosscheck = true →
        (takeVerdict verdict s l).line l = { s.line l with mon := { (s.line l).mon with crossRun := 0 } }
          ∧ OnlyLine l s (takeVerdict verdict s l))
      ∧ OnlyLineAndSelection l s (takeVerdict verdict s l))
      ∧ (s.running = true → Computes s → s.lostNotice = none → s.floor.shift = none → (∀ k, (s.line k).mon.crossRun ≤ 3) →
    Completes (exec .epochMark s) fun t =>
      (∀ k, s.enabled k = true → JudgedOver s t k → (s.line k).mon.crosscheck = false → (s.lineSetup k).maskCrosscheck = false →
          (t.line k).mon.crossRun = (s.line k).mon.crossRun + 1
            ∧ (t.line k).mon.crosscheck = decide ((s.line k).mon.crossRun = 3)
            ∧ ((s.line k).mon.crossRun = 3 → (s.line k).mon.otherwise = true → t.selected = none ∧ t.lostNotice = some k))
        ∧ (∀ k, s.enabled k = true →
          ¬ JudgedOver s t k ∨ (s.line k).mon.crosscheck = true ∨ (s.lineSetup k).maskCrosscheck = true →
          (t.line k).mon = { (s.line k).mon with crossRun := 0 })
        ∧ (∀ k, s.enabled k = false → (t.line k).mon = (s.line k).mon)
        ∧ t.steer.recordMean = peerMeanAt s t
        ∧ t.steer.recordAnchor = (if t.floor.shift = none then
            match s.selected, anchorTermAt s t with
            | some k, some x => some (k, x)
            | _, _ => none
          else none)
        ∧ OnlyEpochMark s t)

/-- MONITOR_EPOCH_WORK, step 5 (R53, R54, R55): the wait of a line that stays otherwise qualified loses one; a line that changes
has it loaded and not counted down; a line is a candidate when it is otherwise qualified and its wait stands at 0. -/
def Obligations.WaitCountsDownToCandidacy : Prop :=
  ∀ (s : State), s.running = true → SelectionSound s →
    Completes (exec .monitorEpochWork s) fun t =>
      (∀ l, s.enabled l = true →
        (t.line l).mon.otherwise = qualifies (t.lineSetup l) (t.line l)
          ∧ ((s.line l).mon.otherwise = true → (t.line l).mon.otherwise = true →
              (t.line l).mon.wtr = (s.line l).mon.wtr - 1)
          ∧ ((s.line l).mon.otherwise ≠ (t.line l).mon.otherwise → (t.line l).mon.wtr = 16 * (s.lineSetup l).wtrCode)
          ∧ ((s.line l).mon.otherwise = false → (t.line l).mon.otherwise = false →
              (t.line l).mon.wtr = (s.line l).mon.wtr ∨ (t.line l).mon.wtr = 16 * (s.lineSetup l).wtrCode)
          ∧ (t.line l).mon.candidate = ((t.line l).mon.otherwise && (t.line l).mon.wtr == 0))
        ∧ OnlyMonitors s t

/-- MONITOR_EPOCH_WORK, the epoch choice (R56, R57, R59): a selected line still a candidate is kept unless a candidate has a
strictly better grade; a line newly chosen is the best candidate by grade, then priority, then number. -/
def Obligations.ChoiceIsBestCandidate : Prop :=
  ∀ (s : State), s.running = true → SelectionSound s →
    Completes (exec .monitorEpochWork s) fun t =>
      (t.selected = none ↔ ∀ l, (t.line l).mon.candidate = false)
        ∧ (∀ b, t.selected = some b →
          (t.line b).mon.candidate = true
            ∧ (∀ x, (t.line x).mon.candidate = true → (t.line b).lrx.grade ≤ (t.line x).lrx.grade)
            ∧ (s.selected ≠ some b → ∀ x, (t.line x).mon.candidate = true → (t.line x).lrx.grade = (t.line b).lrx.grade →
                (s.lineSetup b).priority < (s.lineSetup x).priority
                  ∨ ((s.lineSetup b).priority = (s.lineSetup x).priority ∧ b ≤ x))
            ∧ (∀ c, s.selected = some c → c ≠ b → (t.line c).mon.candidate = true →
                (t.line b).lrx.grade < (t.line c).lrx.grade))
        ∧ OnlyMonitors s t

/-! ### The floor clock and steering -/

/-- FLOOR_FRAME_BOUNDARY (R63, R64, R65, R66): the frame and epoch counts advance; F joins the residue and the frame begun is
short, normal or long; at an epoch mark outside LOADING that addition is left to the epoch work, and the frame counts as normal
until then (log 35); a jump's cut ends (R36), a shift not yet made is dropped (the model's choice, log 35), the mark that a listen
period has just ended goes (R133), and nothing else of the floor clock moves; outside LOADING every store's read mark falls due,
at an epoch mark the epoch close of every enabled line (R15), the monitors' work (R41) and the unit's epoch work too, and at a
multiple of the interval a bulletin mark; nothing else falls due there. In the clockwork floor time advances by one fu a period,
and the boundary comes after 32767, after 32766 in a short frame, and after 32767 has been read twice in a long one (R63, R65).
Each epoch mark of a jabber cut is counted, whatever the floor state, and from the second after the cut on the re-examination
falls due (R115; the count at the boundary is log 32). -/
def Obligations.BoundaryCountsAndAddsF : Prop :=
  ∀ (s : State),
    (s.inReset = false → s.floor.frame < 64 → s.floor.freq.natAbs ≤ 32767 → s.floor.residue.natAbs ≤ 65535 →
    Completes (exec .floorFrameBoundary s) fun t =>
      t.floor.time = 0 ∧ t.floor.frame = (if s.floor.frame = 63 then 0 else s.floor.frame + 1)
        ∧ t.floor.epoch = (if s.floor.frame = 63 ∧ s.floor.epoch < 4294967295 then s.floor.epoch + 1 else s.floor.epoch)
        ∧ (s.floor.frame = 63 ∧ s.floor.state ≠ .loading → t.floor.residue = s.floor.residue ∧ t.floor.kind = .normal)
        ∧ (s.floor.frame ≠ 63 ∨ s.floor.state = .loading →
          (65536 ≤ s.floor.residue + s.floor.freq →
              t.floor.kind = .short ∧ t.floor.residue = s.floor.residue + s.floor.freq - 65536)
            ∧ (s.floor.residue + s.floor.freq ≤ -65536 →
              t.floor.kind = .long ∧ t.floor.residue = s.floor.residue + s.floor.freq + 65536)
            ∧ ((s.floor.residue + s.floor.freq).natAbs ≤ 65535 →
              t.floor.kind = .normal ∧ t.floor.residue = s.floor.residue + s.floor.freq))
        ∧ t.floor.residue.natAbs ≤ 65535
        ∧ (s.running = true → ∀ l, .readMark l ∈ t.due)
        ∧ (s.running = true → s.floor.frame = 63 → .epochMark ∈ t.due)
        ∧ (s.running = true → t.floor.frame % s.interval = 0 → .bulletinMark ∈ t.due)
        ∧ t.bus.marksSinceCut = (if s.floor.frame = 63 ∧ s.bus.jabber = true ∧ s.bus.marksSinceCut < 2 then s.bus.marksSinceCut + 1
          else s.bus.marksSinceCut)
        ∧ (∀ c, c ∉ s.due → (c ∈ t.due ↔
          (c = .jabberReexamination ∧ s.floor.frame = 63 ∧ s.bus.jabber = true ∧ 1 ≤ s.bus.marksSinceCut)
            ∨ (s.running = true ∧ ((∃ l, c = .readMark l)
              ∨ (s.floor.frame = 63 ∧ ((∃ l, s.enabled l = true ∧ c = .receiverEpochClose l) ∨ c = .monitorEpochWork ∨ c = .epochMark))
              ∨ (t.floor.frame % s.interval = 0 ∧ c = .bulletinMark)))))
        ∧ t.floor = { s.floor with
            time := 0, frame := t.floor.frame, epoch := t.floor.epoch, residue := t.floor.residue, kind := t.floor.kind
            secondRead := false, shift := none, cut := false, listenEnded := false }
        ∧ { t with
            floor := s.floor, due := s.due, bus := { t.bus with marksSinceCut := s.bus.marksSinceCut } } = s)
      ∧ (Idling s → s.floor.shift = none → s.floor.time < 32768 →
        Completes (step s) fun t =>
          ((s.floor.kind = .short ∧ 32766 ≤ s.floor.time) ∨ (s.floor.kind = .normal ∧ s.floor.time = 32767)
              ∨ (s.floor.kind = .long ∧ s.floor.time = 32767 ∧ s.floor.secondRead = true) →
            .floorFrameBoundary ∈ t.due ∧ t.floor = { s.floor with time := 0, secondRead := false })
          ∧ (s.floor.kind = .long → s.floor.time = 32767 → s.floor.secondRead = false →
            .floorFrameBoundary ∉ t.due ∧ t.floor = { s.floor with secondRead := true })
          ∧ ((s.floor.kind = .short ∧ s.floor.time < 32766) ∨ (s.floor.kind ≠ .short ∧ s.floor.time < 32767) →
            (s.floor.kind = .long → s.floor.secondRead = false) →
            .floorFrameBoundary ∉ t.due ∧ t.floor = { s.floor with time := s.floor.time + 1 }))

/-- EPOCH_MARK, step 1 and the listen marks (R66, R67, R69, R70, R131, R133, R140, R145, R151): every entry is aged, handed with
its samples, then reset and its hold counted down; at a listen mark before the fourth the unit counts the mark, and F and I stand.
At every mark, the listen marks among them (log 19), F as the work leaves it joins the residue and makes the frame begun short,
normal or long, and the next TIMING is the epoch's first; the fourth listen mark is marked as the one that ended the listen
period. -/
def Obligations.EpochMarkTakesPeers : Prop :=
  ∀ (s : State), s.running = true →
    Completes (exec .epochMark s) fun t =>
      (∀ p, (s.peer p).state = .absent → t.peer p = s.peer p ∧ t.steer.snapshot.get p = {})
        ∧ (∀ p, (s.peer p).state ≠ .absent → 15 ≤ (s.peer p).sinceAny → t.peer p = {} ∧ t.steer.snapshot.get p = {})
        ∧ (∀ p, (s.peer p).state ≠ .absent → (s.peer p).sinceAny < 15 →
          t.peer p = { s.peer p with
              state := if (s.peer p).state = .active ∧ 1 ≤ (s.peer p).sinceTiming then .stale else (s.peer p).state
              sinceAny := (s.peer p).sinceAny + 1
              sinceTiming := if (s.peer p).sinceTiming < 255 then (s.peer p).sinceTiming + 1 else (s.peer p).sinceTiming
              sum := 0, count := 0, generation := s.floor.generation, hold := (s.peer p).hold - 1 }
            ∧ t.steer.snapshot.get p = ⟨(t.peer p).state, (s.peer p).announced, decide ((s.peer p).profile = s.setup.profile),
                (s.peer p).sum, (s.peer p).count, (s.peer p).generation⟩)
        ∧ (t.steer.peerHold = true ↔
          ∃ p, 0 < (s.peer p).hold ∧ ((s.peer p).state = .absent ∨ (s.peer p).sinceAny < 15))
        ∧ (s.floor.state = .start → s.floor.listen < 3 → s.steer.role = none →
          t.floor.listen = s.floor.listen + 1 ∧ t.floor.state = .start ∧ t.floor.freq = s.floor.freq
            ∧ t.floor.integral = s.floor.integral ∧ t.floor.generation = s.floor.generation ∧ t.floor.shift = s.floor.shift
            ∧ t.lines = s.lines ∧ t.bus = s.bus ∧ t.selected = s.selected
            ∧ t.steer = { s.steer with
                snapshot := t.steer.snapshot, peerHold := t.steer.peerHold
                holdAge := if s.steer.holdAge < 65535 then s.steer.holdAge + 1 else s.steer.holdAge })
        ∧ (65536 ≤ s.floor.residue + t.floor.freq →
          t.floor.kind = .short ∧ t.floor.residue = s.floor.residue + t.floor.freq - 65536)
        ∧ (s.floor.residue + t.floor.freq ≤ -65536 →
          t.floor.kind = .long ∧ t.floor.residue = s.floor.residue + t.floor.freq + 65536)
        ∧ ((s.floor.residue + t.floor.freq).natAbs ≤ 65535 →
          t.floor.kind = .normal ∧ t.floor.residue = s.floor.residue + t.floor.freq)
        ∧ t.floor.epochFirst = true
        ∧ (s.floor.state = .start ∧ s.floor.listen = 3 → t.floor.listen = 4 ∧ t.floor.listenEnded = true)
        ∧ (s.floor.state ≠ .start → t.floor.listen = s.floor.listen)
        ∧ (s.floor.state ≠ .start ∨ s.floor.listen < 3 → t.floor.listenEnded = s.floor.listenEnded)
        ∧ OnlyEpochMark s t

/-- EPOCH_MARK, role and leading grade (R76, R85, R86, R87): ANCHORED with a selected line that no source peer betters; else
FOLLOWING with a source peer better than the fallback grade; else HOLDING or FREE by the fallback grade; the announced grade is
the leading one. -/
def Obligations.EpochMarkDecidesRole : Prop :=
  ∀ (s : State), s.running = true → Computes s → s.lostNotice = none →
    Completes (exec .epochMark s) fun t =>
      (t.steer.role = some .anchored ↔ ∃ l, LineLeads s t l)
        ∧ (t.steer.role = some .following ↔
          (∀ l, ¬ LineLeads s t l) ∧ ∃ p g, IsSource t p g ∧ g < fallbackGrade s.setup s.steer)
        ∧ (t.steer.role = some .holding ↔
          (∀ l, ¬ LineLeads s t l) ∧ (∀ p g, IsSource t p g → fallbackGrade s.setup s.steer ≤ g)
            ∧ s.steer.historyValid = true ∧ s.steer.holdAge ≤ s.setup.holdoverLimit * 256)
        ∧ (t.steer.role = some .free ↔
          (∀ l, ¬ LineLeads s t l) ∧ (∀ p g, IsSource t p g → fallbackGrade s.setup s.steer ≤ g)
            ∧ ¬ (s.steer.historyValid = true ∧ s.steer.holdAge ≤ s.setup.holdoverLimit * 256))
        ∧ (∀ l, LineLeads s t l → t.steer.announced = (s.line l).lrx.grade)
        ∧ (t.steer.role = some .following →
          (∃ p, IsSource t p t.steer.announced) ∧ ∀ p g, IsSource t p g → t.steer.announced ≤ g)
        ∧ (t.steer.role = some .holding → t.steer.announced = 4) ∧ (t.steer.role = some .free → t.steer.announced = 5)
        ∧ t.steer.leading = some t.steer.announced ∧ OnlyEpochMark s t

/-- EPOCH_MARK, build-out offset and own hold (R84, R86, R88, R95): a change into or within ANCHORED takes the selected line as
anchor and, without a jump, its phase as offset; a change into, out of or within ANCHORED sets the own hold to the hold epochs, of
which this computation counts one, and submits a HOLD with their number; no other computation touches the bus interface. -/
def Obligations.ChangeOfLeadHolds : Prop :=
  ∀ (s : State), s.running = true → Computes s → s.lostNotice = none →
    Completes (exec .epochMark s) fun t =>
      (t.steer.role = some .anchored → s.steer.role ≠ some .anchored ∨ s.steer.anchor ≠ s.selected →
          t.steer.anchor = s.selected
            ∧ (t.floor.generation = s.floor.generation → s.floor.generation < 4294967295 →
              t.steer.offset = s.selected.bind fun l => (s.line l).mon.handedPhase)
            ∧ t.steer.ownHold = s.setup.holdEpochs - 1 ∧ HoldSubmitted s.setup.holdEpochs s t)
        ∧ (t.steer.role = some .anchored → s.steer.role = some .anchored → s.steer.anchor = s.selected →
          t.steer.anchor = s.steer.anchor ∧ t.steer.ownHold = s.steer.ownHold - 1 ∧ t.bus = s.bus
            ∧ (t.floor.generation = s.floor.generation → s.floor.generation < 4294967295 →
              t.steer.offset = match s.steer.offset with
                | some o => some o
                | none => s.selected.bind fun l => (s.line l).mon.handedPhase))
        ∧ (t.steer.role ≠ some .anchored → s.steer.role = some .anchored →
          t.steer.anchor = none ∧ t.steer.offset = none ∧ t.steer.ownHold = s.setup.holdEpochs - 1
            ∧ HoldSubmitted s.setup.holdEpochs s t)
        ∧ (t.steer.role ≠ some .anchored → s.steer.role ≠ some .anchored →
          t.steer.ownHold = s.steer.ownHold - 1 ∧ t.bus = s.bus)
        ∧ OnlyEpochMark s t

/-- EPOCH_MARK, the phase jump (R16, R27, R70, R71, R82, R83, R84, R91, R92): the mark that ends the listen period, and no other,
jumps where the combined error E, of the peers and the line that lead, passes the jump threshold. The jump advances the
generation, cuts the frame, leaves ACQUIRE with the epoch locked, where the lock counter stands below 3, and no offset, marks
every enabled line's new epoch, where the line has not closed the old one ahead of it (the model's choice, log 26), and sends
every ALIGNED enabled line's store a recentre request with cause JUMP; without it, at whatever lock count, the generation and the
cut stand and no line's receiver or store is touched. In the next period floor time reads (1 - E) mod 32768 in place of 1. -/
def Obligations.JumpShiftsFloorOnce : Prop :=
  ∀ (s : State),
    (s.running = true → s.lostNotice = none → s.floor.shift = none →
    Completes (exec .epochMark s) fun t =>
      (∀ e, combinedError s t = some e → s.floor.state = .start → 3 ≤ s.floor.listen → s.setup.jumpThreshold < e.natAbs →
          t.floor.shift = some e)
        ∧ (combinedError s t = none ∨ s.floor.state ≠ .start ∨ s.floor.listen < 3
            ∨ (∀ e, combinedError s t = some e → e.natAbs ≤ s.setup.jumpThreshold) → t.floor.shift = none)
        ∧ (∀ e, t.floor.shift = some e →
          (s.floor.lock ≤ 2 → t.floor.state = .acquire ∧ t.floor.lock = s.floor.lock + 1)
            ∧ t.floor.cut = true ∧ t.steer.offset = none ∧ t.steer.recordAnchor = none ∧ t.floor.unshifted = s.floor.generation
            ∧ t.floor.generation = (if s.floor.generation < 4294967295 then s.floor.generation + 1 else s.floor.generation)
            ∧ (∀ l, s.enabled l = true →
              (t.line l).lrx.jumpFlag = ((s.line l).lrx.jumpFlag || decide (.receiverEpochClose l ∉ s.due))
                ∧ (t.line l).lrx.jumpAhead = ((s.line l).lrx.jumpAhead || decide (.receiverEpochClose l ∈ s.due))
                ∧ (t.line l).store.request
                  = if (s.line l).lrx.align = .aligned then some .jump else (s.line l).store.request)
            ∧ ∀ l, s.enabled l = false → t.line l = s.line l)
        ∧ (t.floor.shift = none →
          t.floor.generation = s.floor.generation ∧ t.floor.cut = s.floor.cut ∧ t.floor.unshifted = s.floor.unshifted
            ∧ ∀ l, (t.line l).lrx = (s.line l).lrx ∧ (t.line l).store = (s.line l).store)
        ∧ OnlyEpochMark s t)
      ∧ (∀ e, Idling s → s.floor.shift = some e →
        Completes (step s) fun t =>
          t.floor = { s.floor with time := ((1 - e) % 32768).toNat, shift := none } ∧ .floorFrameBoundary ∉ t.due)

/-- No peer announcing FOLLOWING bears on a station's steering (R85, R91): two states that differ only in the entry of one peer,
announced as FOLLOWING in both and with the same hold and age, come out of EPOCH_MARK with the same floor clock, role, lines and bus,
and differ only in that entry and its snapshot. -/
def Obligations.FollowersDoNotSteer : Prop :=
  ∀ (p : PeerNo) (e : Peer) (s : State), (s.peer p).announced.map Announced.role = some .following →
    e.announced.map Announced.role = some .following → e.hold = (s.peer p).hold → e.sinceAny = (s.peer p).sinceAny →
    e.state ≠ .absent → (s.peer p).state ≠ .absent →
    ∃ t u, exec .epochMark s = .next t ∧ exec .epochMark (s.setPeer p e) = .next u
      ∧ u.floor = t.floor ∧ u.lines = t.lines ∧ u.bus = t.bus ∧ u.selected = t.selected
      ∧ { u.steer with snapshot := t.steer.snapshot } = t.steer
      ∧ (∀ q, q ≠ p → u.peer q = t.peer q ∧ u.steer.snapshot.get q = t.steer.snapshot.get q)

/-- EPOCH_MARK of a station anchored alone in TRACK (R73, R83, R91 to R96): with no peer heard, no hold and a valid phase, E is the
wrapped distance of the line's phase from the offset, I moves by -KI E within 64 times the pull limit, and F is the integral's
frequency less KP E within the pull limit, and within the slew limit where the unlock test has just left TRACK. The second part says
it of every computation: with the combined error E of the peers and the line that lead, taken as absent at a jump, the lock counter
counts locked epochs and enters TRACK at the fourth (R72), the unlock run leaves it at the second (R73), I stands in HOLDING and while
the own hold or a peer's stands (R90, R94, R95), and F starts from I, or in HOLDING from the holdover value (R93, R96). -/
def Obligations.AnchoredAloneFollowsLine : Prop :=
  ∀ (l : LineNo) (o p : Nat) (e : Int) (s : State),
    (s.floor.state = .track → s.lostNotice = none → s.selected = some l →
    s.steer.role = some .anchored → s.steer.anchor = some l → s.steer.offset = some o →
    (s.line l).mon.handedPhase = some p → s.steer.ownHold = 0 → (∀ q, (s.peer q).state = .absent ∧ (s.peer q).hold = 0) →
    0 < s.setup.weight (s.line l).lrx.grade → 0 < s.setup.anchorGain → e = wrap ((p : Int) - o) →
    Completes (exec .epochMark s) fun t =>
      t.floor.integral = max (-(64 * (s.setup.pullLimit : Int))) (min (64 * (s.setup.pullLimit : Int))
          (s.floor.integral - 2 ^ s.setup.ki * e))
        ∧ (e.natAbs ≤ 4 * s.setup.lockWindow → t.floor.state = .track ∧ t.floor.unlock = 0)
        ∧ (4 * s.setup.lockWindow < e.natAbs → s.floor.unlock = 0 → t.floor.state = .track ∧ t.floor.unlock = 1)
        ∧ (4 * s.setup.lockWindow < e.natAbs → s.floor.unlock = 1 → t.floor.state = .acquire ∧ t.floor.unlock = 0)
        ∧ t.floor.freq = (let x := max (-(s.setup.pullLimit : Int)) (min (s.setup.pullLimit : Int)
              (t.floor.integral / 64 - 2 ^ s.setup.kp * e))
            if t.floor.state = .acquire then
              max (-(1600 * ((s.setup.slewCode : Int) + 1))) (min (1600 * ((s.setup.slewCode : Int) + 1)) x)
            else x)
        ∧ t.steer.role = some .anchored ∧ t.steer.recordAnchor = some (l, e) ∧ t.bus = s.bus ∧ OnlyEpochMark s t)
      ∧ (s.running = true → Computes s → s.lostNotice = none → s.floor.shift = none → s.floor.lock ≤ 3 → s.floor.unlock ≤ 1 →
    Completes (exec .epochMark s) fun t =>
      (s.floor.state = .track →
          (∀ x, combinedError s t = some x → 4 * s.setup.lockWindow < x.natAbs →
            if s.floor.unlock = 1 then t.floor.state = .acquire ∧ t.floor.unlock = 0 ∧ t.floor.lock = 0
            else t.floor.state = .track ∧ t.floor.unlock = 1 ∧ t.floor.lock = s.floor.lock)
          ∧ ((∀ x, combinedError s t = some x → x.natAbs ≤ 4 * s.setup.lockWindow) →
            t.floor.state = .track ∧ t.floor.unlock = 0 ∧ t.floor.lock = s.floor.lock))
        ∧ (s.floor.state ≠ .track →
          (t.floor.shift.isSome = true ∨ (∀ x, combinedError s t = some x → x.natAbs ≤ s.setup.lockWindow) →
            if s.floor.lock = 3 then t.floor.state = .track ∧ t.floor.lock = 0 ∧ t.floor.unlock = 0
            else t.floor.state = .acquire ∧ t.floor.lock = s.floor.lock + 1 ∧ t.floor.unlock = s.floor.unlock)
          ∧ (∀ x, t.floor.shift = none → combinedError s t = some x → s.setup.lockWindow < x.natAbs →
            t.floor.state = .acquire ∧ t.floor.lock = 0 ∧ t.floor.unlock = s.floor.unlock))
        ∧ t.steer.holdover = (if t.steer.role ≠ some .holding then none
            else if s.steer.role = some .holding then s.steer.holdover else some (s.steer.ring.sum.tdiv 16))
        ∧ (∀ i x, i = (if t.steer.role = some .holding ∧ s.steer.role ≠ some .holding then 64 * s.steer.ring.sum.tdiv 16
              else s.floor.integral) →
          x = (if t.floor.shift.isSome then none else combinedError s t) →
          t.floor.integral = (match x with
              | none => i
              | some y =>
                if t.steer.role = some .holding ∨ 0 < holdAtFilter s t ∨ t.steer.peerHold = true then i
                else clamp (64 * s.setup.pullLimit) (i - 2 ^ s.setup.ki * y))
            ∧ ∀ f, f = clamp s.setup.pullLimit
                  ((if t.steer.role = some .holding then t.steer.holdover.getD 0 else t.floor.integral / 64)
                    - 2 ^ s.setup.kp * x.getD 0) →
              t.floor.freq = if t.floor.state = .acquire then clamp (1600 * (s.setup.slewCode + 1)) f else f)
        ∧ OnlyEpochMark s t)

/-- EPOCH_MARK, the history (R74, R76): a computation that leaves TRACK, ANCHORED or FOLLOWING, with a leading grade of 1..3 puts F
into the ring, adds to the run, makes history valid at 64 and sets the age to 0; any other sets the run to 0, leaves the ring, and
ages the memory by one. -/
def Obligations.TraceableEpochsMakeHistory : Prop :=
  ∀ (s : State), s.running = true → Computes s → s.lostNotice = none →
    Completes (exec .epochMark s) fun t =>
      ((t.floor.state = .track ∧ (t.steer.role = some .anchored ∨ t.steer.role = some .following)
            ∧ 1 ≤ t.steer.announced ∧ t.steer.announced ≤ 3) →
          t.steer.ring = (if s.steer.ring.length < 16 then s.steer.ring else s.steer.ring.tail) ++ [t.floor.freq]
            ∧ t.steer.runCount = (if s.steer.runCount < 64 then s.steer.runCount + 1 else s.steer.runCount)
            ∧ t.steer.historyValid = (s.steer.historyValid || decide (63 ≤ s.steer.runCount)) ∧ t.steer.holdAge = 0)
        ∧ (¬ (t.floor.state = .track ∧ (t.steer.role = some .anchored ∨ t.steer.role = some .following)
            ∧ 1 ≤ t.steer.announced ∧ t.steer.announced ≤ 3) →
          t.steer.ring = s.steer.ring ∧ t.steer.runCount = 0 ∧ t.steer.historyValid = s.steer.historyValid
            ∧ t.steer.holdAge = (if s.steer.holdAge < 65535 then s.steer.holdAge + 1 else s.steer.holdAge))
        ∧ OnlyEpochMark s t

/-- Notices at the unit (R87, R88, R89, R90): a selection-lost notice makes an ANCHORED unit fall back at once, to HOLDING on the
ring's mean or to FREE on its integral, with its HOLD, and changes nothing in any other role; a grade change is taken at once by an
ANCHORED unit and by no other. Either acts whatever line it names (the model's choice for a grade change, log 11). -/
def Obligations.NoticesReachAnchoredUnit : Prop :=
  ∀ (l : LineNo) (g : Nat) (s : State),
    (s.steer.role = some .anchored →
      Completes (exec (.selectionLostNotice l) s) fun t =>
        (s.steer.historyValid = true ∧ s.steer.holdAge ≤ s.setup.holdoverLimit * 256 →
          t.steer.role = some .holding ∧ t.steer.announced = 4 ∧ t.steer.holdover = some (s.steer.ring.sum.tdiv 16)
            ∧ t.floor.integral = 64 * s.steer.ring.sum.tdiv 16
            ∧ t.floor.freq = clampFreq s.setup s.floor.state (s.steer.ring.sum.tdiv 16))
          ∧ (¬ (s.steer.historyValid = true ∧ s.steer.holdAge ≤ s.setup.holdoverLimit * 256) →
            t.steer.role = some .free ∧ t.steer.announced = 5 ∧ t.steer.holdover = none
              ∧ t.floor.integral = s.floor.integral ∧ t.floor.freq = clampFreq s.setup s.floor.state (s.floor.integral / 64))
          ∧ t.steer.leading = some t.steer.announced ∧ t.steer.ownHold = s.setup.holdEpochs
          ∧ HoldSubmitted s.setup.holdEpochs s t
          ∧ t.floor = { s.floor with integral := t.floor.integral, freq := t.floor.freq }
          ∧ t.steer = { s.steer with
              role := t.steer.role, leading := t.steer.leading, announced := t.steer.announced, ownHold := t.steer.ownHold
              holdover := t.steer.holdover, anchor := none, offset := none, recordAnchor := none, runCount := 0
              deferredHold := t.steer.deferredHold }
          ∧ { t with
              floor := s.floor, steer := s.steer, lostNotice := s.lostNotice
              bus := { t.bus with hold := s.bus.hold, flight := s.bus.flight } } = s)
      ∧ (s.steer.role ≠ some .anchored → exec (.selectionLostNotice l) s = .next { s with lostNotice := none })
      ∧ (s.steer.role = some .anchored → 1 ≤ g → g ≤ 5 →
        exec (.gradeChangeNotice l g) s
          = .next { s with gradeNotice := none, steer := { s.steer with leading := some g, announced := g } })
      ∧ (s.steer.role ≠ some .anchored → exec (.gradeChangeNotice l g) s = .next { s with gradeNotice := none })

/-- BULLETIN_MARK (R64, R106, R107, R108, R129, R130, R131, R133): in START, and at the mark that ends the listen period, an INTRO goes
to an empty INTRO slot; in ACQUIRE and TRACK a TIMING takes the next sequence, whatever becomes of it, and goes to the TIMING slot
unless one is in SENDING there; the first after an epoch mark lists the enabled lines, each by its number, alignment, candidacy,
selection, grade and whether a condition is live. One that replaces a TIMING in GAP or BACKOFF keeps its phase and backoff and starts its
attempts from 0; with nothing in flight the pick follows. The TIMING carries the pins URGENT and NONURGENT as they stand: URGENT is high
while the role is FREE in ACQUIRE or TRACK, or DUPLICATE, ECHO or JABBER is live (R167), NONURGENT while a latched flag of an enabled
line or of the station is set (R168). -/
def Obligations.BulletinMarkBuilds : Prop :=
  ∀ (s : State),
    (s.urgent = true ↔ (s.steer.role = some .free ∧ (s.floor.state = .acquire ∨ s.floor.state = .track)) ∨ s.duplicate = true
      ∨ s.bus.echo = true ∨ s.bus.jabber = true)
    ∧ (s.nonurgent = true ↔ (∃ l, s.enabled l = true ∧ ∃ c, (s.line l).mon.latched.get c = true) ∨ s.flags.duplicate = true
      ∨ s.flags.echo = true ∨ s.flags.jabber = true ∨ s.flags.contend = true ∨ s.flags.profile = true ∨ s.flags.config = true)
    ∧ (s.running = true →
    Completes (exec .bulletinMark s) fun t =>
      (s.floor.state = .start ∨ s.floor.listenEnded = true →
          t.floor = s.floor
            ∧ t.bus.intro = (if s.standalone = false ∧ s.duplicate = false ∧ s.bus.intro = none
              then some [BitVec.ofNat 8 (32 + s.number), 0xFF#8, s.setup.profile, BitVec.ofNat 8 s.setup.intervalCode, 0#8]
              else s.bus.intro)
            ∧ t.bus.timing = s.bus.timing
            ∧ (s.standalone = true ∨ s.duplicate = true ∨ s.bus.intro.isSome = true ∨ s.bus.flight.isSome = true →
              t.bus.flight = s.bus.flight)
            ∧ (s.standalone = false → s.duplicate = false → s.bus.intro = none → s.bus.flight = none → PickMade t))
        ∧ (s.steered = true → s.floor.listenEnded = false →
          t.floor = { s.floor with sequence := (s.floor.sequence + 1) % 256, epochFirst := false }
            ∧ t.bus.intro = s.bus.intro
            ∧ (s.standalone = true ∨ s.duplicate = true ∨ (s.bus.timing.isSome = true ∧ s.bus.flying .timing = true
                ∧ s.bus.sending = true) → t.bus = s.bus)
            ∧ (s.standalone = false → s.duplicate = false →
              ¬ (s.bus.timing.isSome = true ∧ s.bus.flying .timing = true ∧ s.bus.sending = true) →
              (∃ x, t.bus.timing = some x ∧ x.getD 0 0#8 = BitVec.ofNat 8 (16 + s.number) ∧ x.getD 1 0#8 = 0xFF#8
                ∧ announcedOf x = ⟨(s.steer.role).getD .anchored, gradeOfCode (BitVec.ofNat 3 s.steer.announced), s.floor.state⟩
                ∧ flagAt x 5 0 = s.floor.epochFirst ∧ flagAt x 5 1 = decide (0 < s.steer.ownHold)
                ∧ flagAt x 5 2 = s.urgent ∧ flagAt x 5 3 = s.nonurgent ∧ flagAt x 5 4 = s.flags.duplicate
                ∧ x.getD 6 0#8 = s.setup.profile ∧ x.getD 7 0#8 = BitVec.ofNat 8 s.floor.sequence
                ∧ octetAt x 8 = (if s.floor.epochFirst then s.enabledLines.length else 0)
                ∧ x.length = 9 + 2 * octetAt x 8
                ∧ (s.floor.epochFirst = true → ∀ (k : Fin 16) (l : LineNo), s.enabledLines[k.val]? = some l →
                  octetAt x (9 + 2 * k.val) % 16 = l.val
                    ∧ octetAt x (9 + 2 * k.val) / 16 % 4 = (match (s.line l).lrx.align with
                      | .off => 0
                      | .dark => 0
                      | .search => 1
                      | .check => 2
                      | .aligned => 3)
                    ∧ flagAt x (9 + 2 * k.val) 6 = (s.line l).mon.candidate
                    ∧ flagAt x (9 + 2 * k.val) 7 = decide (s.selected = some l)
                    ∧ octetAt x (10 + 2 * k.val) = (s.line l).lrx.grade % 8
                      + 8 * (decide (∃ c ∈ [LineCond.lof, .wander, .diverge, .degraded, .excess, .crosscheck],
                        (s.line l).live c = true)).toNat))
              ∧ (∀ f, s.bus.flight = some f →
                t.bus.flight = some (if s.bus.timing.isSome = true ∧ f.slot = .timing then { f with attempts := 0 } else f))
              ∧ (s.bus.flight = none → PickMade t)))
        ∧ t.due = s.due.erase .bulletinMark
        ∧ { t with
            floor := s.floor, due := s.due
            bus := { t.bus with timing := s.bus.timing, intro := s.bus.intro, flight := s.bus.flight } } = s)

/-! ### The floor timing bus -/

/-- LAUNCH (R77, R101, R109): the bulletin in GAP is in SENDING with its attempt counted, and the driver drives the first half of the
preamble; a TIMING's stamp is the floor time of the delimiter, 16 bit times on (log 9), and no other octet of it changes. In the
clockwork the launch falls due at the end of a bit time that finds the quiet count at 28 and transmit enabled (R103, R109); where a bit
time ends, here and in the quiet count, is the model's choice (log 31). The command itself does not test the quiet count (log 3). -/
def Obligations.LaunchStampsAndSends : Prop :=
  ∀ (f : Flight) (s : State),
    (s.running = true → s.standalone = false → s.bus.enabled = true → s.bus.flight = some f → f.phase = .gap →
    Completes (exec .launch s) fun t =>
      t.bus = { s.bus with
          flight := some { f with
            phase := .sending, attempts := (if f.attempts < 16 then f.attempts + 1 else f.attempts), sent := 0, stop := none }
          timing := t.bus.timing, quiet := 0, busy := true, echoResult := none }
        ∧ { t with bus := s.bus } = s ∧ t.busDriver = some true
        ∧ (f.slot ≠ .timing → t.bus.timing = s.bus.timing)
        ∧ (f.slot = .timing → ∀ x, s.bus.timing = some x → 4 ≤ x.length →
          ∃ y, t.bus.timing = some y ∧ y.length = x.length ∧ y.take 2 = x.take 2 ∧ y.drop 4 = x.drop 4
            ∧ (s.floor.kind = .normal → s.floor.time < 31744 → launchStampOf y = s.floor.time + 1024)
            ∧ (s.floor.kind = .normal → 31744 ≤ s.floor.time → s.floor.time < 32768 →
              launchStampOf y = s.floor.time + 1024 - 32768)
            ∧ (s.floor.time < 32768 → octetAt y 3 < 128)))
      ∧ (BusIdling s → s.bus.flight = some f → f.phase = .gap →
        Completes (step s) fun t =>
          t.bus.flight = some f
            ∧ (.launch ∈ t.due ↔ endsBitTime s = true ∧ t.bus.quiet = 28 ∧ s.bus.enabled = true))

/-- TRANSMISSION_RELEASE (R103, R107, R109, R113): the bulletin leaves its slot and the next is picked; a good echo clears the miss
run and releases ECHO; a bad or missing one counts, and the fourth in a row asserts ECHO and latches it; an echo still in reception
waits for its end. The command does not test the time on the wire (log 3). In the clockwork the driver puts each half-bit out for 32 periods, and the release falls due with the end of the end
delimiter, 26 + 8 k bit times after the launch of k octets (R100, R101, R109). -/
def Obligations.ReleaseEndsFlight : Prop :=
  ∀ (f : Flight) (s : State), s.bus.flight = some f → f.phase = .sending →
    (s.bus.echoMiss ≤ 4 →
    Completes (exec .transmissionRelease s) fun t =>
      FlightEnds f.slot s t ∧ PickMade t
        ∧ SlotsOnly { s.bus with
            quiet := 0, busy := true, echoResult := none, echoMiss := t.bus.echoMiss, echo := t.bus.echo
            echoAwaited := t.bus.echoAwaited } t
        ∧ (s.bus.echoResult = some true →
          t.bus.echoMiss = 0 ∧ t.bus.echo = false ∧ t.flags.echo = s.flags.echo ∧ t.bus.echoAwaited = s.bus.echoAwaited)
        ∧ (s.bus.echoResult = none → (∃ r, s.bus.frame = some r ∧ r.ownEcho = true) →
          t.bus.echoMiss = s.bus.echoMiss ∧ t.bus.echo = s.bus.echo ∧ t.flags.echo = s.flags.echo ∧ t.bus.echoAwaited = true)
        ∧ (s.bus.echoResult = some false ∨ (s.bus.echoResult = none ∧ ∀ r, s.bus.frame = some r → r.ownEcho = false) →
          t.bus.echoMiss = min 4 (s.bus.echoMiss + 1) ∧ t.bus.echo = (s.bus.echo || decide (3 ≤ s.bus.echoMiss))
            ∧ t.flags.echo = (s.flags.echo || (!s.bus.echo && decide (3 ≤ s.bus.echoMiss)))
            ∧ t.bus.echoAwaited = s.bus.echoAwaited)
        ∧ t.flags.jabber = s.flags.jabber ∧ t.flags.contend = s.flags.contend ∧ OnlyBusAndFlags s t)
      ∧ (BusIdling s → f.stop = none →
        Completes (step s) fun t =>
          (t.bus.flight = some { f with sent := f.sent + 1, stop := (t.bus.flight.bind Flight.stop) })
            ∧ (s.pins.senseLevel = wireLevel (withCheck (s.bus.content f.slot)) (f.sent + 1) →
              t.bus.flight = some { f with sent := f.sent + 1 } ∧ .collision ∉ t.due
                ∧ (.transmissionRelease ∈ t.due ↔ f.sent + 1 = 64 * (26 + 8 * (withCheck (s.bus.content f.slot)).length))
                ∧ t.busDriver = wireLevel (withCheck (s.bus.content f.slot)) (f.sent + 1)))
      ∧ (∀ octets k, (octets.length * 8 + 26) * 64 ≤ k → wireLevel octets k = none)
      ∧ (∀ octets k h, (wireSamples octets)[k]? = some h → ∀ i, i < 32 →
        wireLevel octets (64 * k + i) = some h.1 ∧ wireLevel octets (64 * k + 32 + i) = some h.2)

/-- COLLISION and BACKOFF_EXPIRY (R110, R111, R112, R116, R119): a collided bulletin waits ((number + attempts) mod 12) + 1 slots of 64
bit times and returns to GAP; it is dropped instead at the sixteenth collision, which is counted and latches CONTEND, and uncounted
when the restart kept it or DUPLICATE stands (log 20). In the clockwork the driver's sense is read at the centre of each half-bit driven;
at the first mismatch the bit time and the next one pass (within the bulletin: log 10), the driver then goes off and the collision falls
due; a backoff loses one at each bit time, and its expiry falls due at 0 (R110, R111), where a bit time ends being the model's choice
(log 31). BACKOFF_EXPIRY brings the backoff to 0, whatever it stood at (log 3). That COLLISION itself leaves the quiet count is the
model's choice (log 31). -/
def Obligations.CollisionBacksOffOrDrops : Prop :=
  ∀ (f : Flight) (s : State), s.bus.flight = some f →
    (f.phase = .sending → f.kept = false → f.attempts < 16 → (s.duplicate = false ∨ f.slot = .report) →
      exec .collision s = .next { s with bus := { s.bus with
        echoResult := none
        flight := some { f with phase := .backoff, backoff := ((s.number + f.attempts) % 12 + 1) * 64 } } })
      ∧ (f.phase = .sending → (f.kept = true ∨ 16 ≤ f.attempts ∨ (s.duplicate = true ∧ f.slot ≠ .report)) →
        Completes (exec .collision s) fun t =>
          FlightEnds f.slot s t ∧ PickMade t
            ∧ SlotsOnly { s.bus with echoResult := none, contention := t.bus.contention } t
            ∧ t.bus.contention = (if f.kept = false ∧ 16 ≤ f.attempts ∧ s.bus.contention < 65535 then s.bus.contention + 1
              else s.bus.contention)
            ∧ t.flags.contend = (s.flags.contend || (!f.kept && decide (16 ≤ f.attempts)))
            ∧ t.flags.echo = s.flags.echo ∧ t.flags.jabber = s.flags.jabber ∧ OnlyBusAndFlags s t)
      ∧ (f.phase = .backoff →
        exec .backoffExpiry s = .next { s with bus := { s.bus with flight := some { f with phase := .gap, backoff := 0 } } })
      ∧ (BusIdling s → f.phase = .sending →
        Completes (step s) fun t =>
          ∃ g, t.bus.flight = some g ∧ g = { f with sent := f.sent + 1, stop := g.stop }
            ∧ (∀ n, f.stop = some n → g.stop = some n)
            ∧ (f.stop = none → (f.sent + 1) % 32 ≠ 16
                ∨ s.pins.senseLevel = wireLevel (withCheck (s.bus.content f.slot)) (f.sent + 1) → g.stop = none)
            ∧ (f.stop = none → (f.sent + 1) % 32 = 16 →
              s.pins.senseLevel ≠ wireLevel (withCheck (s.bus.content f.slot)) (f.sent + 1) →
              g.stop = some (min (64 * (26 + 8 * (withCheck (s.bus.content f.slot)).length)) (64 * ((f.sent + 1) / 64 + 2))))
            ∧ (.collision ∈ t.due ↔ g.stop = some (f.sent + 1)))
      ∧ (BusIdling s → f.phase = .backoff →
        Completes (step s) fun t =>
          t.bus.flight = some (if endsBitTime s = true then { f with backoff := f.backoff - 1 } else f)
            ∧ (.backoffExpiry ∈ t.due ↔ endsBitTime s = true ∧ f.backoff = 1))

/-- JABBER_CUTOFF and JABBER_REEXAMINATION (R114, R115): the cut disables transmit, asserts and latches JABBER, and drops the bulletin in
flight uncounted; a re-examination with the drive sense low releases JABBER, enables transmit and picks, with it high changes
nothing. In the clockwork the drive run counts the bit times that find the sense high, read in their last period (the model's choice,
log 31), and one that finds it low sets it to 0; the cut falls due at the 1025th unless JABBER is live. The cut brings the run to 1025,
whatever it stood at (log 3), and the re-examination does not test the count of epoch marks (log 32). That the cut leaves the quiet
count and the carrier, the driver's going off being taken as no transition, is the model's choice (log 31). -/
def Obligations.JabberCutsAndReleases : Prop :=
  ∀ (s : State), s.running = true → s.standalone = false →
    (s.bus.jabber = false →
      Completes (exec .jabberCutoff s) fun t =>
        SlotsOnly { s.bus with
            driveRun := 1025, enabled := false, jabber := true, marksSinceCut := 0, echoResult := none } t
          ∧ t.bus.flight = none ∧ (∀ f, s.bus.flight = some f → FlightEnds f.slot s t)
          ∧ (s.bus.flight = none → t.steer = s.steer ∧ t.bus.timing = s.bus.timing ∧ t.bus.hold = s.bus.hold
            ∧ t.bus.intro = s.bus.intro ∧ t.bus.reports = s.bus.reports)
          ∧ t.flags = { s.flags with jabber := true } ∧ OnlyBusAndFlags s t)
      ∧ (s.bus.jabber = true → s.pins.driveSense = false →
        Completes (exec .jabberReexamination s) fun t =>
          t.bus = { s.bus with jabber := false, enabled := true, driveRun := 0, flight := t.bus.flight }
            ∧ (s.bus.flight = none → PickMade t) ∧ (s.bus.flight.isSome = true → t.bus.flight = s.bus.flight)
            ∧ t.due = s.due.erase .jabberReexamination ∧ { t with bus := s.bus, due := s.due } = s)
      ∧ (s.pins.driveSense = true →
        exec .jabberReexamination s = .next { s with due := s.due.erase .jabberReexamination })
      ∧ (Idling s →
        Completes (step s) fun t =>
          t.bus.driveRun = (if endsBitTime s = false then s.bus.driveRun
              else if s.pins.driveSense = false then 0
              else if s.bus.driveRun < 1025 then s.bus.driveRun + 1 else s.bus.driveRun)
            ∧ (.jabberCutoff ∈ t.due ↔ endsBitTime s = true ∧ t.bus.driveRun = 1025 ∧ s.bus.jabber = false))

/-- START_DELIMITER, INVERTED_DELIMITER and CARRIER_IDLE (R71, R78, R101, R103, R104, R105, R113, R121): a normal delimiter opens
a frame with what was noted at its first bit time, where the bit times recovered from the pair hold it in the polarity that
stands; where they do not, the command stands at that bit time itself (log 8), with the floor time and the generation that stand,
the old one while a jump's shift is still to come, an own echo where the transmitter is in SENDING. An inverted one joins the run,
the fourth turns the polarity, and the pair is ignored until the carrier is idle; that ends a frame in reception as broken: an own
echo fails, any other is counted by CRC. In the clockwork a transition, on the pair or of the station's own driver, sets the quiet
count to 0 and makes the carrier busy, a bit time without one adds to it up to 28, in the station's own sending too, and the
carrier is idle at 4 (R103; log 31). CARRIER_IDLE brings the quiet count to 4 at least (log 3). -/
def Obligations.DelimitersAndIdleCarrier : Prop :=
  ∀ (s : State), s.running = true → s.standalone = false →
    (s.bus.ignoring = false → s.bus.frame = none →
      (s.bus.recovery.recent.map BitTime.halves ≠ startMark.map (fun h => (h.1 != s.bus.inverted, h.2 != s.bus.inverted)) →
        exec .startDelimiter s = .next { s with bus := { s.bus with
          invertedRun := 0, quiet := 0, busy := true, recovery := { s.bus.recovery with recent := [] }
          frame := some ⟨[], [], false, s.floor.time,
            (if s.floor.shift.isSome then s.floor.unshifted else s.floor.generation),
            decide (s.bus.flight.map Flight.phase = some .sending)⟩ } })
        ∧ (∀ b bs, s.bus.recovery.recent = b :: bs →
          (b :: bs).map BitTime.halves = startMark.map (fun h => (h.1 != s.bus.inverted, h.2 != s.bus.inverted)) →
          exec .startDelimiter s = .next { s with bus := { s.bus with
            invertedRun := 0, quiet := 0, busy := true, recovery := { s.bus.recovery with recent := [] }
            frame := some ⟨[], [], false, b.mark.stamp, b.mark.generation, b.mark.own⟩ } })
        ∧ exec .invertedDelimiter s = .next { s with bus := { s.bus with
          quiet := 0, busy := true, ignoring := true, recovery := { s.bus.recovery with recent := [] }
          invertedRun := if s.bus.invertedRun = 3 then 0 else s.bus.invertedRun + 1
          inverted := s.bus.inverted.xor (decide (s.bus.invertedRun = 3)) } })
      ∧ (∀ r, s.bus.frame = some r →
        exec .carrierIdle s = .next (State.frameFails { s with
          bus := { s.bus with quiet := max 4 s.bus.quiet, busy := false, ignoring := false, frame := none } } r.ownEcho))
      ∧ (s.bus.frame = none →
        exec .carrierIdle s = .next { s with
          bus := { s.bus with quiet := max 4 s.bus.quiet, busy := false, ignoring := false } })
      ∧ (Idling s →
        Completes (step s) fun t =>
          t.bus.quiet = (if transition s = true then 0
              else if endsBitTime s = true ∧ s.bus.sawEdge = false ∧ s.bus.quiet < 28 then s.bus.quiet + 1 else s.bus.quiet)
            ∧ t.bus.busy = (s.bus.busy || transition s)
            ∧ t.bus.sawEdge = (!endsBitTime s && (s.bus.sawEdge || transition s))
            ∧ (.carrierIdle ∈ t.due ↔ endsBitTime s = true ∧ t.bus.busy = true ∧ 4 ≤ t.bus.quiet))

/-- The wire (R100 to R102, R104, R105): the bit times sent after the start delimiter for up to 62 octets and their check are received,
in either polarity, as a good-framed frame of those same octets whose check is good. Before that the bit times are recovered from the
pair: from a bit time found, the two levels of the next are read at the centres of its halves, with what is noted at its beginning; and
a pair that was idle gives, 24 bit times after a launch, the eight bit times of the start delimiter, the first noted as it began, which
read as a normal or an inverted one by the polarity that stands, as no other eight bit times do (log 10). In the clockwork each period
gives the recovery the level of the pair and what is noted in that period; where it ends a bit time, the bit time falls due to the frame
in reception, or with the seven before it, unless the pair is ignored, makes a start delimiter fall due. -/
def Obligations.WireRoundTrip : Prop :=
  ∀ (octets : List Octet) (f : RxFrame) (now : Nat → Mark) (level : Bool) (s : State),
    (octets.length ≤ 62 → f.octets = [] → f.bits = [] → f.violation = false →
    receive false f (bodySamples (withCheck octets))
        = .ended { f with octets := withCheck octets, violation := true } true false
      ∧ receive true f ((bodySamples (withCheck octets)).map fun h => (!h.1, !h.2))
        = .ended { f with octets := withCheck octets, violation := true } true false
      ∧ checkGood (withCheck octets) = true)
      ∧ (∀ r k h, r.locked = true → r.phase = 63 → r.since ≤ 81 →
        recoverBits now [h] (k, level, r)
          = (k + 64, h.2, { r with
              since := if h.1 ≠ h.2 then 31 else if h.1 ≠ level then 63 else min 81 (r.since + 64)
              mark := none, first := none
              recent := (r.recent ++ [({ halves := h, mark := now k } : BitTime)]).drop (r.recent.length + 1 - 8) }))
      ∧ (∀ r k, r = recoverBits now (preamble ++ startMark) (k, level, { since := 81 }) →
        r.2.2.recent = (List.range 8).zipWith (fun i h => ({ halves := h, mark := now (k + 64 * (16 + i)) } : BitTime)) startMark)
      ∧ (∀ bits, (delimiterIn false bits = some .normal ↔ bits = [(true, true), (false, false), (true, false), (true, false),
            (false, true), (true, false), (false, true), (false, true)])
          ∧ (delimiterIn false bits = some .inverted ↔ bits = [(false, false), (true, true), (false, true), (false, true),
            (true, false), (false, true), (true, false), (true, false)])
          ∧ (delimiterIn true bits = some .normal ↔ delimiterIn false bits = some .inverted)
          ∧ (delimiterIn true bits = some .inverted ↔ delimiterIn false bits = some .normal))
      ∧ (BusIdling s →
        Completes (step s) fun t =>
          t.bus.recovery = s.bus.recovery.next s.bus.busy s.pins.busLevel (s.pins.busLevel != s.bus.lastLevel) t.markNow
            ∧ t.bus.lastLevel = s.pins.busLevel ∧ t.bus.frame = s.bus.frame
            ∧ ∀ ended, ended = (s.bus.recovery.mark.isSome && t.bus.recovery.mark.isNone && t.bus.recovery.phase == 48) →
              (.startDelimiter ∈ t.due ↔ ended = true ∧ s.bus.frame = none ∧ s.bus.ignoring = false
                ∧ delimiterIn s.bus.inverted (t.bus.recovery.recent.map BitTime.halves) = some .normal)
              ∧ (.invertedDelimiter ∈ t.due ↔ ended = true ∧ s.bus.frame = none ∧ s.bus.ignoring = false
                ∧ delimiterIn s.bus.inverted (t.bus.recovery.recent.map BitTime.halves) = some .inverted)
              ∧ ∀ xs, .frameEnd xs ∈ t.due ↔ ended = true ∧ s.bus.frame.isSome = true
                ∧ ∃ b, t.bus.recovery.recent.getLast? = some b ∧ xs = [b.halves])

/-- FRAME_END of a whole bulletin (R104, R113, R116, R121 to R125, R152): an own echo is judged good, at once where its release waits for
it; otherwise an unknown kind or a length its kind does not have is counted; a bulletin for this station joins the queue, or is counted
by OVERFLOW when it is full; a controller's kind from a retimer is counted; a bulletin under the own number asserts DUPLICATE; any other is
ignored. The bit times are read against the receive polarity (R105). A frame that ends with a framing fault, broken or off an octet or
with fewer than two, or with a bad check, is counted by CRC, and as an own echo fails; so is one in which a 65th octet begins, after
which the pair is ignored until the carrier is idle. A frame whose bit times come in parts ends as one whose bit times come at
once, and one bit time, as the clockwork brings it, that does not end the frame joins it: a bit in assembly, an octet with its eighth,
or the first violation of the end delimiter. -/
def Obligations.FrameEndSortsBulletin : Prop :=
  ∀ (x : List Octet) (f : RxFrame) (s : State), s.bus.frame = some f →
   (∀ xs ys g, exec (.frameEnd xs) s = .next { s with bus := { s.bus with frame := some g } } →
      exec (.frameEnd ys) { s with bus := { s.bus with frame := some g } } = exec (.frameEnd (xs ++ ys)) s)
   ∧ (∀ h, f.violation = false → (h.1 = h.2 ∨ f.octets.length < 64) →
      exec (.frameEnd [h]) s = .next { s with bus := { s.bus with frame := some (
        if h.1 = h.2 then { f with violation := true }
        else if f.bits.length = 7 then
          { f with octets := f.octets ++ [bitsOctet (f.bits ++ [h.1 != s.bus.inverted])], bits := [] }
        else { f with bits := f.bits ++ [h.1 != s.bus.inverted] }) } })
   ∧ (f.octets = [] → f.bits = [] → f.violation = false →
    (∀ (bits : List Bool) (v : Bool) (h : Bool × Bool),
      (bits.length ≤ 512 → h.1 ≠ h.2 ∨ bits.length % 8 ≠ 0 ∨ bits.length < 16 →
        exec (.frameEnd ((bits.map bitHalves ++ [(v, v), h]).map (readHalves s.bus.inverted))) s
          = .next (State.frameFails { s with bus := { s.bus with frame := none } } f.ownEcho))
      ∧ (512 < bits.length →
        exec (.frameEnd ((bits.map bitHalves).map (readHalves s.bus.inverted))) s
          = .next (State.frameFails { s with bus := { s.bus with frame := none, ignoring := true } } f.ownEcho)))
    ∧ (2 ≤ x.length → x.length ≤ 64 → checkGood x = false →
      exec (.frameEnd ((bodySamples x).map (readHalves s.bus.inverted))) s
        = .next (State.frameFails { s with bus := { s.bus with frame := none } } f.ownEcho))
    ∧ (x.length ≤ 62 →
    Completes (exec (.frameEnd ((bodySamples (withCheck x)).map (readHalves s.bus.inverted))) s) fun t =>
      (f.ownEcho = true → s.bus.echoAwaited = false →
          t = { s with bus := { s.bus with frame := none, echoResult := some true } })
        ∧ (f.ownEcho = true → s.bus.echoAwaited = true →
          t = { s with bus := { s.bus with frame := none, echoAwaited := false, echoMiss := 0, echo := false } })
        ∧ (f.ownEcho = false → kindOf x = 0 ∨ 8 ≤ kindOf x →
          t = { s with
            bus := { s.bus with frame := none }
            counters := { s.counters with kind := if s.counters.kind < 65535 then s.counters.kind + 1 else s.counters.kind } })
        ∧ (f.ownEcho = false → 1 ≤ kindOf x → kindOf x ≤ 7 → ¬ Sized x →
          t = { s with
            bus := { s.bus with frame := none }
            counters := { s.counters with
              length := if s.counters.length < 65535 then s.counters.length + 1 else s.counters.length } })
        ∧ (f.ownEcho = false → Sized x →
          (kindOf x ≤ 3 ∧ sourceOf x ≠ s.number ∧ sourceOf x < 12)
            ∨ ((kindOf x = 4 ∨ 6 ≤ kindOf x) ∧ 12 ≤ sourceOf x ∧ (octetAt x 1 = s.number ∨ octetAt x 1 = 255)) →
          t = if s.queue.length < 8 then { s with
              bus := { s.bus with frame := none }
              queue := s.queue ++ [⟨withCheck x, f.stamp, f.generation⟩] }
            else { s with
              bus := { s.bus with frame := none }
              counters := { s.counters with
                overflow := if s.counters.overflow < 65535 then s.counters.overflow + 1 else s.counters.overflow } })
        ∧ (f.ownEcho = false → Sized x → (kindOf x = 4 ∨ 6 ≤ kindOf x) → sourceOf x < 12 →
          t = { s with
            bus := { s.bus with frame := none }
            counters := { s.counters with
              misdirect := if s.counters.misdirect < 65535 then s.counters.misdirect + 1 else s.counters.misdirect } })
        ∧ (f.ownEcho = false → Sized x → (kindOf x ≤ 3 ∨ kindOf x = 5) → sourceOf x = s.number → s.duplicate = false →
          Silenced s t ∧ SlotsOnly { s.bus with frame := none } t
            ∧ { t with
                bus := s.bus, duplicate := s.duplicate, flags := { t.flags with duplicate := s.flags.duplicate }
                steer := { t.steer with deferredHold := s.steer.deferredHold } } = s)
        ∧ (f.ownEcho = false → Sized x →
          ((kindOf x ≤ 3 ∨ kindOf x = 5) ∧ sourceOf x = s.number ∧ s.duplicate = true)
            ∨ (kindOf x ≤ 3 ∧ sourceOf x ≠ s.number ∧ 12 ≤ sourceOf x) ∨ (kindOf x = 5 ∧ sourceOf x ≠ s.number)
            ∨ ((kindOf x = 4 ∨ 6 ≤ kindOf x) ∧ 12 ≤ sourceOf x ∧ octetAt x 1 ≠ s.number ∧ octetAt x 1 ≠ 255) →
          t = { s with bus := { s.bus with frame := none } })))

/-! ### The bulletin unit and the peer table -/

/-- SERVE_TIMING (R78, R120, R132, R139, R141 to R144, R146): the entry takes the announced values, the alarm summary and the profile
code, its ages go to 0, the sequence gap joins the missed count, its state moves by the profile and the two TIMINGs close together, and
the sample joins the sum where the generations agree and the entry is not MISMATCHED. -/
def Obligations.ServeTimingUpdatesEntry : Prop :=
  ∀ (p : PeerNo) (q : RxEntry) (s : State), HeadServed 1 q s → sourceOf q.octets = p.val →
    (∀ n, (s.peer p).lastSeq = some n → n < 256) →
    Completes (exec .serveTiming s) fun t =>
      (q.octets.getD 6 0#8 ≠ s.setup.profile → (t.peer p).state = .mismatched ∧ (t.peer p).hold =
          (if (s.peer p).state = .mismatched then (s.peer p).hold else 0)
          ∧ ((s.peer p).state ≠ .mismatched → (t.peer p).sum = 0 ∧ (t.peer p).count = 0
            ∧ (t.peer p).generation = s.floor.generation ∧ (t.peer p).firstMark = false))
        ∧ (q.octets.getD 6 0#8 = s.setup.profile →
          (t.peer p).hold = (if (s.peer p).state = .absent then 0 else (s.peer p).hold)
          ∧ ((s.peer p).state = .absent ∨ (s.peer p).state = .mismatched → (t.peer p).state = .joining ∧ (t.peer p).firstMark = true)
          ∧ ((s.peer p).state = .joining →
            if (s.peer p).firstMark = true ∧ (s.peer p).sinceTiming ≤ 1 then
              (t.peer p).state = .active ∧ (t.peer p).firstMark = false
            else (t.peer p).state = .joining ∧ (t.peer p).firstMark = true)
          ∧ ((s.peer p).state = .active ∨ (s.peer p).state = .stale →
            (t.peer p).state = .active ∧ (t.peer p).firstMark = (s.peer p).firstMark)
          ∧ (∀ c z, (c, z) = (if (s.peer p).state = .absent ∨ (s.peer p).generation ≠ s.floor.generation then (0, (0 : Int))
              else ((s.peer p).count, (s.peer p).sum)) →
            q.generation = s.floor.generation → c < 255 →
            (t.peer p).count = c + 1 ∧ (t.peer p).generation = s.floor.generation
              ∧ (t.peer p).sum = z + wrap ((q.stamp : Int) - launchStampOf q.octets - s.setup.delayComp))
          ∧ ((s.peer p).state ≠ .absent → q.generation ≠ s.floor.generation ∨ ((s.peer p).generation = s.floor.generation
              ∧ 255 ≤ (s.peer p).count) →
            (t.peer p).count = (s.peer p).count ∧ (t.peer p).sum = (s.peer p).sum
              ∧ (t.peer p).generation = (s.peer p).generation))
        ∧ (t.peer p).announced = some (announcedOf q.octets) ∧ (t.peer p).profile = q.octets.getD 6 0#8
        ∧ (t.peer p).urgent = flagAt q.octets 5 2 ∧ (t.peer p).nonurgent = flagAt q.octets 5 3
        ∧ (t.peer p).sinceAny = 0 ∧ (t.peer p).sinceTiming = 0 ∧ (t.peer p).lastSeq = some (octetAt q.octets 7)
        ∧ (t.peer p).missed = (if (s.peer p).state = .absent then 0
          else match (s.peer p).lastSeq with
            | none => (s.peer p).missed
            | some n => min 255 ((s.peer p).missed + (((octetAt q.octets 7 : Int) - n - 1) % 256).toNat))
        ∧ t.flags.profile = (s.flags.profile || (profileLive t.peers && !profileLive s.peers))
        ∧ t.bus = s.bus ∧ OnlyPeer p s t

/-- SERVE_INTRO (R106, R133, R139, R141, R147, R148): a new entry is JOINING or MISMATCHED by the profile code; a code that differs makes
any entry MISMATCHED, and a matching one a MISMATCHED entry JOINING; a non-answer INTRO returns an ACTIVE or STALE entry to JOINING;
only the non-answer INTRO of a new entry is answered, where the slot is empty, and with nothing in flight the pick follows (R107). -/
def Obligations.ServeIntroUpdatesEntry : Prop :=
  ∀ (p : PeerNo) (q : RxEntry) (s : State), HeadServed 2 q s → sourceOf q.octets = p.val →
    Completes (exec .serveIntro s) fun t =>
      ((s.peer p).state = .absent →
          t.peer p = { ({} : Peer) with
            state := if q.octets.getD 2 0#8 = s.setup.profile then .joining else .mismatched
            profile := q.octets.getD 2 0#8, generation := s.floor.generation })
        ∧ ((s.peer p).state ≠ .absent → q.octets.getD 2 0#8 = s.setup.profile →
          t.peer p = { s.peer p with
            profile := q.octets.getD 2 0#8, sinceAny := 0
            state := if (s.peer p).state = .mismatched ∨ flagAt q.octets 4 0 = false then .joining else (s.peer p).state
            firstMark := if (s.peer p).state = .mismatched
                ∨ (flagAt q.octets 4 0 = false ∧ (s.peer p).state ≠ .joining) then false else (s.peer p).firstMark })
        ∧ ((s.peer p).state ≠ .absent → q.octets.getD 2 0#8 ≠ s.setup.profile →
          t.peer p = if (s.peer p).state = .mismatched then { s.peer p with profile := q.octets.getD 2 0#8, sinceAny := 0 }
            else { s.peer p with
              profile := q.octets.getD 2 0#8, sinceAny := 0, state := .mismatched, sum := 0, count := 0
              generation := s.floor.generation, hold := 0, firstMark := false })
        ∧ t.bus.intro = (if (s.peer p).state = .absent ∧ flagAt q.octets 4 0 = false ∧ s.standalone = false ∧ s.duplicate = false
              ∧ s.bus.intro = none
            then some [BitVec.ofNat 8 (32 + s.number), 0xFF#8, s.setup.profile, BitVec.ofNat 8 s.setup.intervalCode, 1#8]
            else s.bus.intro)
        ∧ ((s.peer p).state = .absent → flagAt q.octets 4 0 = false → s.standalone = false → s.duplicate = false →
          s.bus.intro = none → s.bus.flight = none → PickMade t)
        ∧ (¬ ((s.peer p).state = .absent ∧ flagAt q.octets 4 0 = false ∧ s.standalone = false ∧ s.duplicate = false
            ∧ s.bus.intro = none ∧ s.bus.flight = none) → t.bus.flight = s.bus.flight)
        ∧ t.flags.profile = (s.flags.profile || (profileLive t.peers && !profileLive s.peers)) ∧ OnlyPeer p s t

/-- SERVE_HOLD (R134, R149): on a JOINING, ACTIVE or STALE entry a count above 0 raises the hold remaining to it and a count of 0 ends
it, and the age since any bulletin is 0; a MISMATCHED entry takes only the age; an ABSENT one nothing. Neither the state nor the epochs
since TIMING move, and no other entry changes. -/
def Obligations.ServeHoldSetsHold : Prop :=
  ∀ (p : PeerNo) (q : RxEntry) (s : State), HeadServed 3 q s → sourceOf q.octets = p.val →
    Completes (exec .serveHold s) fun t =>
      ((s.peer p).state = .joining ∨ (s.peer p).state = .active ∨ (s.peer p).state = .stale →
          t.peer p = { s.peer p with
            sinceAny := 0
            hold := if octetAt q.octets 2 = 0 then 0
              else if (s.peer p).hold < octetAt q.octets 2 then octetAt q.octets 2 else (s.peer p).hold })
        ∧ ((s.peer p).state = .mismatched → t.peer p = { s.peer p with sinceAny := 0 })
        ∧ ((s.peer p).state = .absent → t.peer p = s.peer p)
        ∧ t.flags = s.flags ∧ t.bus = s.bus ∧ OnlyPeer p s t

/-- INQUIRY_LOG, INQUIRY_LINES, INQUIRY_PEERS, INQUIRY_STATION and INQUIRY_UNKNOWN_SUBJECT (R126, R135, R158): each takes the INQUIRY of
its subject; with four REPORTs held it is dropped and the mark set; otherwise its REPORT is begun with nothing read and no period passed,
for a free time of 1..16384 periods (log 12), and the queue stands. -/
def Obligations.InquiriesEnterService : Prop :=
  ∀ (c : Instr) (q : RxEntry) (s : State), HeadServed 4 q s →
    ((c = .inquiryLog ∧ octetAt q.octets 2 = 1) ∨ (c = .inquiryLines ∧ octetAt q.octets 2 = 2)
      ∨ (c = .inquiryPeers ∧ octetAt q.octets 2 = 3) ∨ (c = .inquiryStation ∧ octetAt q.octets 2 = 4)
      ∨ (c = .inquiryUnknownSubject ∧ (octetAt q.octets 2 = 0 ∨ 5 ≤ octetAt q.octets 2))) →
    (4 ≤ s.bus.reports.length → exec c s = .next { s with queue := s.queue.tail, inquiryDropped := true })
      ∧ (s.bus.reports.length < 4 →
        Completes (exec c s) fun t =>
          ∃ n, 1 ≤ n ∧ n ≤ 16384 ∧ t = { s with
            freeCount := s.freeCount + 1
            service := some {
              subject := q.octets.getD 2 0#8, parameter := octets16 q.octets 3, inquirer := BitVec.ofNat 4 (sourceOf q.octets)
              delay := n } })

/-- REPORT_SUBMISSION (R106, R126, R136, R158): the REPORT joins the REPORT slots from this station to the inquirer, with the subject,
the marks read and the INQUIRY-DROPPED mark, which it clears; the INQUIRY leaves the queue; with no bulletin in flight the pick
follows. -/
def Obligations.ReportIsSubmitted : Prop :=
  ∀ (b : Build) (s : State), s.service = some b →
    Completes (exec .reportSubmission s) fun t =>
      t.service = none ∧ t.queue = s.queue.tail ∧ t.inquiryDropped = false ∧ t.due = s.due.erase .reportSubmission
        ∧ (s.standalone = true ∨ 4 ≤ s.bus.reports.length → t.bus = s.bus)
        ∧ (s.standalone = false → s.bus.reports.length < 4 →
          (∃ x, t.bus = { s.bus with reports := s.bus.reports ++ [x], flight := t.bus.flight }
            ∧ octetAt x 0 = 80 + s.number ∧ octetAt x 1 = b.inquirer.toNat ∧ x.getD 2 0#8 = b.subject
            ∧ flagAt x 3 2 = s.inquiryDropped ∧ octetAt x 3 < 8
            ∧ (b.items ≤ 12 → b.subject.toNat = 1 → x.length = 5 + 12 * octetAt x 4)
            ∧ (b.items ≤ 12 → b.subject.toNat = 2 → x.length = 5 + 6 * octetAt x 4)
            ∧ (b.items ≤ 12 → b.subject.toNat = 3 → x.length = 5 + 4 * octetAt x 4)
            ∧ (b.items ≤ 12 → b.subject.toNat = 4 → x.length = 5 + 48 * octetAt x 4)
            ∧ (b.items = 0 → b.subject.toNat = 0 ∨ 5 ≤ b.subject.toNat → x.length = 5 ∧ octetAt x 4 = 0))
          ∧ (s.bus.flight.isSome = true → t.bus.flight = s.bus.flight) ∧ (s.bus.flight = none → PickMade t))
        ∧ { t with
            service := s.service, queue := s.queue, inquiryDropped := s.inquiryDropped, due := s.due, bus := s.bus } = s

/-- What a REPORT holds (R127, R136, R156, R159 to R163). Where nothing has been read before the submission, all is read there (log 29):
LOG up to four records from the one asked for, or from the oldest with GAP where the log holds none such; LINES up to eight enabled lines
from the parameter on; PEERS the twelve positions; STATION its 48 octets, the selected-line field 0 with no selection (log 36). MORE tells
of records or lines left. In the clockwork each period of the building leaves one period less to the submission, which falls due as the
last passes (R126), and reads a free number of further units (log 12), in ascending place (log 29): each takes the values that a REPORT
all read then would show. What has been read is what the REPORT holds at its submission, the units still unread taking the values that
stand there, and with none unread its count, MORE and GAP are those of the last read. -/
def Obligations.ReportContents : Prop :=
  ∀ (s : State), s.standalone = false → s.bus.reports.length < 4 →
    (∀ (subject : Octet) (parameter n : Nat) (inquirer : BitVec 4),
      s.service = some { subject := subject, parameter := parameter, inquirer := inquirer, delay := n } →
    Completes (exec .reportSubmission s) fun t => ∃ x, t.bus.reports = s.bus.reports ++ [x]
      ∧ (∀ d rs, subject = 1#8 → LogSound s.log →
        d = (parameter + 65536 - (s.log.next + 65536 - s.log.records.length) % 65536) % 65536 →
        rs = s.log.records.drop (if d ≤ s.log.records.length then d else 0) →
        octetAt x 4 = min 4 rs.length ∧ flagAt x 3 0 = decide (4 < rs.length)
          ∧ flagAt x 3 1 = decide (s.log.records.length < d)
          ∧ ∀ (k : Fin 4) (r : Record), rs[k.val]? = some r → ShowsRecord x (5 + 12 * k.val) r)
      ∧ (∀ ls, subject = 2#8 → ls = s.enabledLines.filter (fun l => decide (parameter ≤ l.val)) →
        octetAt x 4 = min 8 ls.length ∧ flagAt x 3 0 = decide (8 < ls.length) ∧ flagAt x 3 1 = false
          ∧ ∀ (k : Fin 8) (l : LineNo), ls[k.val]? = some l → ShowsLine s x (5 + 6 * k.val) l)
      ∧ (subject = 3#8 →
        octetAt x 4 = 12 ∧ flagAt x 3 0 = false ∧ flagAt x 3 1 = false ∧ ∀ p, ShowsPeer s x (5 + 4 * p.val) p)
      ∧ (subject = 4#8 → octetAt x 4 = 1 ∧ flagAt x 3 0 = false ∧ flagAt x 3 1 = false ∧ ShowsStation s x)
      ∧ (subject.toNat = 0 ∨ 5 ≤ subject.toNat →
        octetAt x 4 = 0 ∧ flagAt x 3 0 = false ∧ flagAt x 3 1 = false ∧ x.length = 5)
      ∧ { t with
          bus := s.bus, queue := s.queue, service := s.service, inquiryDropped := s.inquiryDropped, due := s.due } = s)
    ∧ (∀ b, s.service = some b → b.payload.toNat < 2 ^ unitBits b.subject.toNat b.unitsDone →
      (Idling s → s.running = true →
        Completes (step s) fun t => ∃ u : Build,
          t.service = some { b with
              age := b.age + 1, unitsDone := u.unitsDone, payload := u.payload, items := u.items, more := u.more, gap := u.gap }
            ∧ (.reportSubmission ∈ t.due ↔ b.age + 1 = b.delay)
            ∧ b.unitsDone ≤ u.unitsDone ∧ u.payload.toNat < 2 ^ unitBits b.subject.toNat u.unitsDone
            ∧ (u.unitsDone = b.unitsDone →
              u.payload = b.payload ∧ u.items = b.items ∧ u.more = b.more ∧ u.gap = b.gap)
            ∧ (b.unitsDone < u.unitsDone → u.unitsDone ≤ unitsOf t b ∧ ∃ y, Reports b.begun t y
              ∧ u.items = octetAt y 4 ∧ u.more = flagAt y 3 0 ∧ u.gap = flagAt y 3 1
              ∧ ∀ j, j < unitBits b.subject.toNat u.unitsDone →
                u.payload.getLsbD j
                  = if j < unitBits b.subject.toNat b.unitsDone then b.payload.getLsbD j else payloadBit y j))
      ∧ ∃ x y, Reports b s x ∧ Reports b.begun s y ∧ x.take 3 = y.take 3
        ∧ (b.unitsDone < unitsOf s b → x.length = y.length ∧ x.take 5 = y.take 5)
        ∧ (unitsOf s b ≤ b.unitsDone → octetAt x 4 = b.items % 256 ∧ flagAt x 3 0 = b.more ∧ flagAt x 3 1 = b.gap)
        ∧ ∀ j, j < 8 * (x.length - 5) →
          payloadBit x j = if j < unitBits b.subject.toNat b.unitsDone then b.payload.getLsbD j else payloadBit y j)

/-- CLEAR (R51, R137, R165): each latched flag of an enabled line and of the station whose condition is not live is cleared, a flag
whose condition is live stays, CONTEND and CONFIG are always cleared, and nothing else moves but the queue's head. -/
def Obligations.ClearLeavesLiveFlags : Prop :=
  ∀ (q : RxEntry) (s : State), HeadServed 6 q s →
    Completes (exec .clear s) fun t =>
      (∀ l, s.enabled l = true →
          (∀ c, (t.line l).mon.latched.get c = ((s.line l).mon.latched.get c && (s.line l).live c))
            ∧ t.line l = { s.line l with mon := { (s.line l).mon with latched := (t.line l).mon.latched } })
        ∧ (∀ l, s.enabled l = false → t.line l = s.line l)
        ∧ t.flags.duplicate = (s.flags.duplicate && s.duplicate) ∧ t.flags.echo = (s.flags.echo && s.bus.echo)
        ∧ t.flags.jabber = (s.flags.jabber && s.bus.jabber) ∧ t.flags.contend = false ∧ t.flags.config = false
        ∧ (t.flags.profile = true ↔ s.flags.profile = true ∧ ∃ p, (s.peer p).state = .mismatched)
        ∧ t.queue = s.queue.tail ∧ { t with lines := s.lines, flags := s.flags, queue := s.queue } = s

/-- RESTART (R19, R40, R62, R69, R80, R99, R119, R128, R138, R155, R177): enabled lines search with their conditions released, waits
loaded and cells STALE; no selection; the floor is in START with no role, offset, hold or history; the slots keep only what is in
SENDING; the queue is emptied, and the peer table and DUPLICATE are cleared. Each RESTART that stood behind this one is still to
restart the station, at its own service (R138, R177): how it waits, the queue being empty, is the model's choice (log 37). The
leading grade stays (the model's choice, log 21). Frequency, integral, residue, ring, log, counters, latched flags, OFF lines and
the rest stay. -/
def Obligations.RestartReturnsToStart : Prop :=
  ∀ (behind : List RxEntry) (waiting : Nat) (s : State), RestartServed behind waiting s →
    Completes (exec .restart s) fun t =>
      (∀ l, s.enabled l = true →
          (t.line l).lrx = { (s.line l).lrx with
              align := .search, edgeWatch := 0, candidate := none, held := [], scan := [], failed := 0, searchBits := 0
              lof := false, wordWindow := [], gradeRun := {}, farRun := {}, grade := 6, farEnd := true
              trafficParity := none, trafficAcc := false, alignedThroughout := false, accBefore := none, rxCount := 0
              rxBits := [] }
            ∧ (∀ k, (t.line l).store.fresh.get k = false)
            ∧ (t.line l).store = { (s.line l).store with
              fresh := (t.line l).store.fresh, request := none, repeatPending := false, deletePending := false, excess := false }
            ∧ (t.line l).framer = { (s.line l).framer with
              squelched := (s.line l).framer.squelched || ((s.line l).framer.inHand.map InHand.traffic).getD false }
            ∧ (t.line l).mon = { (s.line l).mon with
              wander := false, diverge := false, degraded := false, crosscheck := false, wanderRun := 0, divergeRun := 0
              crossRun := 0, crossReleaseRun := 0, otherwise := false, candidate := false
              wtr := 16 * (s.lineSetup l).wtrCode })
        ∧ (∀ l, s.enabled l = false → t.line l = s.line l)
        ∧ t.selected = none ∧ t.floor = { s.floor with state := .start, listen := 0, lock := 0, unlock := 0 }
        ∧ t.steer = { s.steer with
            role := none, announced := 6, ownHold := 0, offset := none, anchor := none, holdover := none
            recordAnchor := none, recordMean := none, historyValid := false, runCount := 0, deferredHold := none }
        ∧ t.bus = { s.bus with
            timing := t.bus.timing, hold := t.bus.hold, intro := t.bus.intro, reports := t.bus.reports
            flight := t.bus.flight }
        ∧ (∀ f, s.bus.flight = some f → f.phase = .sending → t.bus.flight = some { f with kept := true }
            ∧ t.bus.timing = (if f.slot = .timing then s.bus.timing else none)
            ∧ t.bus.hold = (if f.slot = .hold then s.bus.hold else none)
            ∧ t.bus.intro = (if f.slot = .intro then s.bus.intro else none)
            ∧ t.bus.reports = (if f.slot = .report then s.bus.reports.take 1 else []))
        ∧ (s.bus.flight.map Flight.phase ≠ some .sending →
          t.bus.flight = none ∧ t.bus.timing = none ∧ t.bus.hold = none ∧ t.bus.intro = none ∧ t.bus.reports = [])
        ∧ t.queue = [] ∧ t.restartsWaiting = waiting + (behind.filter fun e => kindOf e.octets == 7).length
        ∧ (∀ p, t.peer p = {}) ∧ t.duplicate = false
        ∧ { t with
            lines := s.lines, selected := s.selected, floor := s.floor, steer := s.steer, bus := s.bus, queue := s.queue
            restartsWaiting := s.restartsWaiting, peers := s.peers, duplicate := s.duplicate } = s

/-! ### Invariants that every step keeps -/

/-- The state right after reset meets every invariant below. -/
def Obligations.ResetMeetsInvariants : Prop :=
  ClockSound State.reset ∧ SelectionSound State.reset ∧ OutputSound State.reset ∧ FlagsSound State.reset
    ∧ AlignSound State.reset ∧ LogSound State.reset.log ∧ BusSound State.reset

/-- Every step keeps the floor clock within its bounds (R63 to R66, R72, R74, R94, R96), whatever the command or the idle
period. -/
def Obligations.ClockStaysBounded : Prop :=
  ∀ (s t : State), ClockSound s → step s = .next t → ClockSound t

/-- Every step keeps qualification in step with the conditions of R52 and candidacy with the wait (R52 to R55), the selected line a
candidate (R59), and ANCHORED with a selection or its loss on the way (R87). -/
def Obligations.SelectionStaysSound : Prop :=
  ∀ (s t : State), SelectionSound s → step s = .next t → SelectionSound t

/-- Every step keeps traffic off an output unless the floor is in ACQUIRE or TRACK and the line is enabled, ALIGNED and without EXCESS
(R31, R32). -/
def Obligations.OutputCarriesOnlyAlignedTraffic : Prop :=
  ∀ (s t : State), OutputSound s → step s = .next t → OutputSound t

/-- Every step keeps each live condition latched (R50, R51, R164, R165), and keeps LOF and OFF in step with the alignment state (R1, R2,
R8). -/
def Obligations.LiveConditionsStayLatched : Prop :=
  ∀ (s t : State), step s = .next t →
    (FlagsSound s → FlagsSound t) ∧ (AlignSound s → AlignSound t)

/-- Every step keeps the slip log's numbering and size (R156), and the bus interface's and bulletin unit's tables: queue and slots within
their sizes (R106, R125), no entry at the own number (R139), no retimer's bulletin but a peer's in the queue (R122), silence under
DUPLICATE (R116). -/
def Obligations.TablesStaySound : Prop :=
  ∀ (s t : State), step s = .next t → (LogSound s.log → LogSound t.log) ∧ (BusSound s → BusSound t)

end
end

