-- ==== Sys2Proof/Laws/Bus.lean ====
section
/-! SUPPORT. What the operations on the transmit slots and on the bulletin in flight do (chapter 6). -/

namespace Sys2Proof.Machine

/-! ### The pick (R107, R116) -/

/-- All that a pick can do: with nothing in flight and transmit enabled it takes the next slot's bulletin, in GAP. -/
theorem pick_spec (s : State) :
    pick s = { s with bus := { s.bus with flight :=
      if s.bus.flight = none ∧ s.bus.enabled = true then (nextSlot s.duplicate s.bus).map fun k => { slot := k }
      else s.bus.flight } } := by
  unfold pick State.onBus
  split
  · next h =>
    have h' : s.bus.flight = none ∧ s.bus.enabled = true := by simpa using h
    rw [if_pos h']
  · next h =>
    have h' : ¬ (s.bus.flight = none ∧ s.bus.enabled = true) := by simpa using h
    rw [if_neg h']

@[simp] theorem pick_slots (s : State) :
    (pick s).bus.timing = s.bus.timing ∧ (pick s).bus.hold = s.bus.hold ∧ (pick s).bus.intro = s.bus.intro
      ∧ (pick s).bus.reports = s.bus.reports := by
  rw [pick_spec]
  exact ⟨rfl, rfl, rfl, rfl⟩

/-- Nothing but the bulletin in flight moves. -/
theorem pick_frame (s : State) : { pick s with bus := { (pick s).bus with flight := s.bus.flight } } = s := by
  rw [pick_spec]

/-- A bulletin in flight stays. -/
theorem pick_of_flight (s : State) (f : Flight) (h : s.bus.flight = some f) : pick s = s := by
  unfold pick
  simp [h]

/-- The slot picked holds a bulletin, and under DUPLICATE it is a REPORT's. -/
theorem nextSlot_sound (d : Bool) (b : Bus) (k : Slot) (h : nextSlot d b = some k) :
    (d = true → k = .report)
      ∧ match k with
        | .timing => b.timing.isSome = true
        | .hold => b.hold.isSome = true
        | .intro => b.intro.isSome = true
        | .report => b.reports ≠ [] := by
  unfold nextSlot at h
  split at h
  · next g => cases h; cases d <;> simp_all
  · split at h
    · next g => cases h; cases d <;> simp_all
    · split at h
      · next g => cases h; cases d <;> simp_all
      · split at h
        · next g => cases h; simpa using g
        · cases h

/-- Nothing is picked only where no slot may go. -/
theorem nextSlot_none (d : Bool) (b : Bus) :
    nextSlot d b = none ↔ b.reports = [] ∧ (d = false → b.timing = none ∧ b.hold = none ∧ b.intro = none) := by
  unfold nextSlot
  cases d <;> cases b.timing <;> cases b.hold <;> cases b.intro <;> cases b.reports <;> simp

/-! ### Submissions (R106, R108, R116, R117) -/

/-- A TIMING's submission touches the bus interface alone. -/
theorem submitTiming_frame (x : Bulletin) (s : State) : { submitTiming x s with bus := s.bus } = s := by
  unfold submitTiming
  split
  · rfl
  · split
    · split <;> rfl
    · rw [pick_spec]; rfl

/-- An INTRO's submission touches the bus interface alone. -/
theorem submitIntro_frame (x : Bulletin) (s : State) : { submitIntro x s with bus := s.bus } = s := by
  unfold submitIntro
  split
  · rfl
  · rw [pick_spec]; rfl

/-- A REPORT's submission touches the bus interface alone. -/
theorem submitReport_frame (x : Bulletin) (s : State) : { submitReport x s with bus := s.bus } = s := by
  unfold submitReport
  split
  · rfl
  · rw [pick_spec]; rfl

/-- A HOLD's submission touches the bus interface and the deferred HOLD alone. -/
theorem submitHold_frame (n : Nat) (s : State) :
    { submitHold n s with bus := s.bus, steer := s.steer } = s
      ∧ { (submitHold n s).steer with deferredHold := s.steer.deferredHold } = s.steer := by
  unfold submitHold
  split
  · exact ⟨rfl, rfl⟩
  · split
    · exact ⟨rfl, rfl⟩
    · rw [pick_spec]; exact ⟨rfl, rfl⟩

/-- At most four REPORTs are ever held. -/
theorem submitReport_length (x : Bulletin) (s : State) (h : s.bus.reports.length ≤ 4) :
    (submitReport x s).bus.reports.length ≤ 4 := by
  unfold submitReport
  split
  · exact h
  · next g =>
    rw [(pick_slots _).2.2.2]
    have : ¬ (4 ≤ s.bus.reports.length) := by
      intro k
      exact g (by simp [k])
    simp only [State.onBus, List.length_append, List.length_singleton]
    omega

/-! ### The end of a flight (R109, R112, R106) -/

@[simp] theorem submitDeferred_none (s : State) (h : s.steer.deferredHold = none) : submitDeferred s = s := by
  unfold submitDeferred
  rw [h]

/-- A bulletin that is no HOLD leaves its slot, and nothing else moves. -/
theorem endFlight_of_ne (f : Flight) (s : State) (h : f.slot ≠ .hold) :
    endFlight f s = { s with bus := { s.bus.emptied f.slot with flight := none } } := by
  unfold endFlight
  simp [h, State.onBus]

/-- The end of a flight touches the bus interface and the deferred HOLD alone. -/
theorem endFlight_frame (f : Flight) (s : State) :
    { endFlight f s with bus := s.bus, steer := s.steer } = s
      ∧ { (endFlight f s).steer with deferredHold := s.steer.deferredHold } = s.steer := by
  by_cases h : f.slot = .hold
  · unfold endFlight
    simp only [h, if_true]
    unfold submitDeferred
    split
    · exact ⟨rfl, rfl⟩
    · next n _ =>
      have g := submitHold_frame n (((s.onBus fun b => { b.emptied .hold with flight := none })).onSteer
        fun t => { t with deferredHold := none })
      refine ⟨?_, ?_⟩
      · have g1 := g.1
        rw [State.mk.injEq] at g1 ⊢
        simp_all [State.onBus, State.onSteer]
      · have g2 := g.2
        rw [Steer.mk.injEq] at g2 ⊢
        simp_all [State.onBus, State.onSteer]
  · rw [endFlight_of_ne f s h]
    exact ⟨rfl, rfl⟩

/-! ### The echo check (R113) -/

/-- A good echo clears the miss count and releases ECHO; a miss counts, and ECHO stands from the fourth on, with its flag
at the assertion. -/
theorem judgeEcho_spec (good : Bool) (s : State) :
    (good = true → (judgeEcho good s).bus = { s.bus with echoMiss := 0, echo := false })
      ∧ (good = false → (judgeEcho good s).bus
          = { s.bus with echoMiss := bump 4 s.bus.echoMiss, echo := s.bus.echo || decide (4 ≤ s.bus.echoMiss + 1) })
      ∧ { judgeEcho good s with bus := s.bus, flags := s.flags } = s
      ∧ ((judgeEcho good s).flags = s.flags ∨ (judgeEcho good s).flags = { s.flags with echo := true }) := by
  unfold judgeEcho
  cases good
  · simp only [Bool.false_eq_true, if_false, State.onBus]
    split
    · exact ⟨nofun, fun _ => rfl, rfl, .inr rfl⟩
    · exact ⟨nofun, fun _ => rfl, rfl, .inl rfl⟩
  · exact ⟨fun _ => rfl, nofun, rfl, .inl rfl⟩

end Sys2Proof.Machine
end

