-- ==== Sys2Proof/Laws/State.lean ====
section
/-! SUPPORT. What each update of the state leaves and what it writes: one lemma for each field. -/

namespace Sys2Proof.Machine

/-! ### `State.setLine` -/

@[simp] theorem State.setLine_pending (s : State) (l : LineNo) (x : Line) : (s.setLine l x).pending = s.pending := rfl
@[simp] theorem State.setLine_due (s : State) (l : LineNo) (x : Line) : (s.setLine l x).due = s.due := rfl
@[simp] theorem State.setLine_freeCount (s : State) (l : LineNo) (x : Line) : (s.setLine l x).freeCount = s.freeCount := rfl
@[simp] theorem State.setLine_pins (s : State) (l : LineNo) (x : Line) : (s.setLine l x).pins = s.pins := rfl
@[simp] theorem State.setLine_inReset (s : State) (l : LineNo) (x : Line) : (s.setLine l x).inReset = s.inReset := rfl
@[simp] theorem State.setLine_loader (s : State) (l : LineNo) (x : Line) : (s.setLine l x).loader = s.loader := rfl
@[simp] theorem State.setLine_setup (s : State) (l : LineNo) (x : Line) : (s.setLine l x).setup = s.setup := rfl
@[simp] theorem State.setLine_selected (s : State) (l : LineNo) (x : Line) : (s.setLine l x).selected = s.selected := rfl
@[simp] theorem State.setLine_lostNotice (s : State) (l : LineNo) (x : Line) : (s.setLine l x).lostNotice = s.lostNotice := rfl
@[simp] theorem State.setLine_gradeNotice (s : State) (l : LineNo) (x : Line) : (s.setLine l x).gradeNotice = s.gradeNotice := rfl
@[simp] theorem State.setLine_floor (s : State) (l : LineNo) (x : Line) : (s.setLine l x).floor = s.floor := rfl
@[simp] theorem State.setLine_steer (s : State) (l : LineNo) (x : Line) : (s.setLine l x).steer = s.steer := rfl
@[simp] theorem State.setLine_bus (s : State) (l : LineNo) (x : Line) : (s.setLine l x).bus = s.bus := rfl
@[simp] theorem State.setLine_queue (s : State) (l : LineNo) (x : Line) : (s.setLine l x).queue = s.queue := rfl
@[simp] theorem State.setLine_restartsWaiting (s : State) (l : LineNo) (x : Line) : (s.setLine l x).restartsWaiting = s.restartsWaiting := rfl
@[simp] theorem State.setLine_service (s : State) (l : LineNo) (x : Line) : (s.setLine l x).service = s.service := rfl
@[simp] theorem State.setLine_counters (s : State) (l : LineNo) (x : Line) : (s.setLine l x).counters = s.counters := rfl
@[simp] theorem State.setLine_inquiryDropped (s : State) (l : LineNo) (x : Line) : (s.setLine l x).inquiryDropped = s.inquiryDropped := rfl
@[simp] theorem State.setLine_peers (s : State) (l : LineNo) (x : Line) : (s.setLine l x).peers = s.peers := rfl
@[simp] theorem State.setLine_duplicate (s : State) (l : LineNo) (x : Line) : (s.setLine l x).duplicate = s.duplicate := rfl
@[simp] theorem State.setLine_log (s : State) (l : LineNo) (x : Line) : (s.setLine l x).log = s.log := rfl
@[simp] theorem State.setLine_flags (s : State) (l : LineNo) (x : Line) : (s.setLine l x).flags = s.flags := rfl

/-! ### `State.onLrx` -/

@[simp] theorem State.onLrx_pending (s : State) (l : LineNo) (f : Lrx → Lrx) : (s.onLrx l f).pending = s.pending := rfl
@[simp] theorem State.onLrx_due (s : State) (l : LineNo) (f : Lrx → Lrx) : (s.onLrx l f).due = s.due := rfl
@[simp] theorem State.onLrx_freeCount (s : State) (l : LineNo) (f : Lrx → Lrx) : (s.onLrx l f).freeCount = s.freeCount := rfl
@[simp] theorem State.onLrx_pins (s : State) (l : LineNo) (f : Lrx → Lrx) : (s.onLrx l f).pins = s.pins := rfl
@[simp] theorem State.onLrx_inReset (s : State) (l : LineNo) (f : Lrx → Lrx) : (s.onLrx l f).inReset = s.inReset := rfl
@[simp] theorem State.onLrx_loader (s : State) (l : LineNo) (f : Lrx → Lrx) : (s.onLrx l f).loader = s.loader := rfl
@[simp] theorem State.onLrx_setup (s : State) (l : LineNo) (f : Lrx → Lrx) : (s.onLrx l f).setup = s.setup := rfl
@[simp] theorem State.onLrx_selected (s : State) (l : LineNo) (f : Lrx → Lrx) : (s.onLrx l f).selected = s.selected := rfl
@[simp] theorem State.onLrx_lostNotice (s : State) (l : LineNo) (f : Lrx → Lrx) : (s.onLrx l f).lostNotice = s.lostNotice := rfl
@[simp] theorem State.onLrx_gradeNotice (s : State) (l : LineNo) (f : Lrx → Lrx) : (s.onLrx l f).gradeNotice = s.gradeNotice := rfl
@[simp] theorem State.onLrx_floor (s : State) (l : LineNo) (f : Lrx → Lrx) : (s.onLrx l f).floor = s.floor := rfl
@[simp] theorem State.onLrx_steer (s : State) (l : LineNo) (f : Lrx → Lrx) : (s.onLrx l f).steer = s.steer := rfl
@[simp] theorem State.onLrx_bus (s : State) (l : LineNo) (f : Lrx → Lrx) : (s.onLrx l f).bus = s.bus := rfl
@[simp] theorem State.onLrx_queue (s : State) (l : LineNo) (f : Lrx → Lrx) : (s.onLrx l f).queue = s.queue := rfl
@[simp] theorem State.onLrx_restartsWaiting (s : State) (l : LineNo) (f : Lrx → Lrx) : (s.onLrx l f).restartsWaiting = s.restartsWaiting := rfl
@[simp] theorem State.onLrx_service (s : State) (l : LineNo) (f : Lrx → Lrx) : (s.onLrx l f).service = s.service := rfl
@[simp] theorem State.onLrx_counters (s : State) (l : LineNo) (f : Lrx → Lrx) : (s.onLrx l f).counters = s.counters := rfl
@[simp] theorem State.onLrx_inquiryDropped (s : State) (l : LineNo) (f : Lrx → Lrx) : (s.onLrx l f).inquiryDropped = s.inquiryDropped := rfl
@[simp] theorem State.onLrx_peers (s : State) (l : LineNo) (f : Lrx → Lrx) : (s.onLrx l f).peers = s.peers := rfl
@[simp] theorem State.onLrx_duplicate (s : State) (l : LineNo) (f : Lrx → Lrx) : (s.onLrx l f).duplicate = s.duplicate := rfl
@[simp] theorem State.onLrx_log (s : State) (l : LineNo) (f : Lrx → Lrx) : (s.onLrx l f).log = s.log := rfl
@[simp] theorem State.onLrx_flags (s : State) (l : LineNo) (f : Lrx → Lrx) : (s.onLrx l f).flags = s.flags := rfl

/-! ### `State.onStore` -/

@[simp] theorem State.onStore_pending (s : State) (l : LineNo) (f : Store → Store) : (s.onStore l f).pending = s.pending := rfl
@[simp] theorem State.onStore_due (s : State) (l : LineNo) (f : Store → Store) : (s.onStore l f).due = s.due := rfl
@[simp] theorem State.onStore_freeCount (s : State) (l : LineNo) (f : Store → Store) : (s.onStore l f).freeCount = s.freeCount := rfl
@[simp] theorem State.onStore_pins (s : State) (l : LineNo) (f : Store → Store) : (s.onStore l f).pins = s.pins := rfl
@[simp] theorem State.onStore_inReset (s : State) (l : LineNo) (f : Store → Store) : (s.onStore l f).inReset = s.inReset := rfl
@[simp] theorem State.onStore_loader (s : State) (l : LineNo) (f : Store → Store) : (s.onStore l f).loader = s.loader := rfl
@[simp] theorem State.onStore_setup (s : State) (l : LineNo) (f : Store → Store) : (s.onStore l f).setup = s.setup := rfl
@[simp] theorem State.onStore_selected (s : State) (l : LineNo) (f : Store → Store) : (s.onStore l f).selected = s.selected := rfl
@[simp] theorem State.onStore_lostNotice (s : State) (l : LineNo) (f : Store → Store) : (s.onStore l f).lostNotice = s.lostNotice := rfl
@[simp] theorem State.onStore_gradeNotice (s : State) (l : LineNo) (f : Store → Store) : (s.onStore l f).gradeNotice = s.gradeNotice := rfl
@[simp] theorem State.onStore_floor (s : State) (l : LineNo) (f : Store → Store) : (s.onStore l f).floor = s.floor := rfl
@[simp] theorem State.onStore_steer (s : State) (l : LineNo) (f : Store → Store) : (s.onStore l f).steer = s.steer := rfl
@[simp] theorem State.onStore_bus (s : State) (l : LineNo) (f : Store → Store) : (s.onStore l f).bus = s.bus := rfl
@[simp] theorem State.onStore_queue (s : State) (l : LineNo) (f : Store → Store) : (s.onStore l f).queue = s.queue := rfl
@[simp] theorem State.onStore_restartsWaiting (s : State) (l : LineNo) (f : Store → Store) : (s.onStore l f).restartsWaiting = s.restartsWaiting := rfl
@[simp] theorem State.onStore_service (s : State) (l : LineNo) (f : Store → Store) : (s.onStore l f).service = s.service := rfl
@[simp] theorem State.onStore_counters (s : State) (l : LineNo) (f : Store → Store) : (s.onStore l f).counters = s.counters := rfl
@[simp] theorem State.onStore_inquiryDropped (s : State) (l : LineNo) (f : Store → Store) : (s.onStore l f).inquiryDropped = s.inquiryDropped := rfl
@[simp] theorem State.onStore_peers (s : State) (l : LineNo) (f : Store → Store) : (s.onStore l f).peers = s.peers := rfl
@[simp] theorem State.onStore_duplicate (s : State) (l : LineNo) (f : Store → Store) : (s.onStore l f).duplicate = s.duplicate := rfl
@[simp] theorem State.onStore_log (s : State) (l : LineNo) (f : Store → Store) : (s.onStore l f).log = s.log := rfl
@[simp] theorem State.onStore_flags (s : State) (l : LineNo) (f : Store → Store) : (s.onStore l f).flags = s.flags := rfl

/-! ### `State.onFramer` -/

@[simp] theorem State.onFramer_pending (s : State) (l : LineNo) (f : Framer → Framer) : (s.onFramer l f).pending = s.pending := rfl
@[simp] theorem State.onFramer_due (s : State) (l : LineNo) (f : Framer → Framer) : (s.onFramer l f).due = s.due := rfl
@[simp] theorem State.onFramer_freeCount (s : State) (l : LineNo) (f : Framer → Framer) : (s.onFramer l f).freeCount = s.freeCount := rfl
@[simp] theorem State.onFramer_pins (s : State) (l : LineNo) (f : Framer → Framer) : (s.onFramer l f).pins = s.pins := rfl
@[simp] theorem State.onFramer_inReset (s : State) (l : LineNo) (f : Framer → Framer) : (s.onFramer l f).inReset = s.inReset := rfl
@[simp] theorem State.onFramer_loader (s : State) (l : LineNo) (f : Framer → Framer) : (s.onFramer l f).loader = s.loader := rfl
@[simp] theorem State.onFramer_setup (s : State) (l : LineNo) (f : Framer → Framer) : (s.onFramer l f).setup = s.setup := rfl
@[simp] theorem State.onFramer_selected (s : State) (l : LineNo) (f : Framer → Framer) : (s.onFramer l f).selected = s.selected := rfl
@[simp] theorem State.onFramer_lostNotice (s : State) (l : LineNo) (f : Framer → Framer) : (s.onFramer l f).lostNotice = s.lostNotice := rfl
@[simp] theorem State.onFramer_gradeNotice (s : State) (l : LineNo) (f : Framer → Framer) : (s.onFramer l f).gradeNotice = s.gradeNotice := rfl
@[simp] theorem State.onFramer_floor (s : State) (l : LineNo) (f : Framer → Framer) : (s.onFramer l f).floor = s.floor := rfl
@[simp] theorem State.onFramer_steer (s : State) (l : LineNo) (f : Framer → Framer) : (s.onFramer l f).steer = s.steer := rfl
@[simp] theorem State.onFramer_bus (s : State) (l : LineNo) (f : Framer → Framer) : (s.onFramer l f).bus = s.bus := rfl
@[simp] theorem State.onFramer_queue (s : State) (l : LineNo) (f : Framer → Framer) : (s.onFramer l f).queue = s.queue := rfl
@[simp] theorem State.onFramer_restartsWaiting (s : State) (l : LineNo) (f : Framer → Framer) : (s.onFramer l f).restartsWaiting = s.restartsWaiting := rfl
@[simp] theorem State.onFramer_service (s : State) (l : LineNo) (f : Framer → Framer) : (s.onFramer l f).service = s.service := rfl
@[simp] theorem State.onFramer_counters (s : State) (l : LineNo) (f : Framer → Framer) : (s.onFramer l f).counters = s.counters := rfl
@[simp] theorem State.onFramer_inquiryDropped (s : State) (l : LineNo) (f : Framer → Framer) : (s.onFramer l f).inquiryDropped = s.inquiryDropped := rfl
@[simp] theorem State.onFramer_peers (s : State) (l : LineNo) (f : Framer → Framer) : (s.onFramer l f).peers = s.peers := rfl
@[simp] theorem State.onFramer_duplicate (s : State) (l : LineNo) (f : Framer → Framer) : (s.onFramer l f).duplicate = s.duplicate := rfl
@[simp] theorem State.onFramer_log (s : State) (l : LineNo) (f : Framer → Framer) : (s.onFramer l f).log = s.log := rfl
@[simp] theorem State.onFramer_flags (s : State) (l : LineNo) (f : Framer → Framer) : (s.onFramer l f).flags = s.flags := rfl

/-! ### `State.onMon` -/

@[simp] theorem State.onMon_pending (s : State) (l : LineNo) (f : Monitor → Monitor) : (s.onMon l f).pending = s.pending := rfl
@[simp] theorem State.onMon_due (s : State) (l : LineNo) (f : Monitor → Monitor) : (s.onMon l f).due = s.due := rfl
@[simp] theorem State.onMon_freeCount (s : State) (l : LineNo) (f : Monitor → Monitor) : (s.onMon l f).freeCount = s.freeCount := rfl
@[simp] theorem State.onMon_pins (s : State) (l : LineNo) (f : Monitor → Monitor) : (s.onMon l f).pins = s.pins := rfl
@[simp] theorem State.onMon_inReset (s : State) (l : LineNo) (f : Monitor → Monitor) : (s.onMon l f).inReset = s.inReset := rfl
@[simp] theorem State.onMon_loader (s : State) (l : LineNo) (f : Monitor → Monitor) : (s.onMon l f).loader = s.loader := rfl
@[simp] theorem State.onMon_setup (s : State) (l : LineNo) (f : Monitor → Monitor) : (s.onMon l f).setup = s.setup := rfl
@[simp] theorem State.onMon_selected (s : State) (l : LineNo) (f : Monitor → Monitor) : (s.onMon l f).selected = s.selected := rfl
@[simp] theorem State.onMon_lostNotice (s : State) (l : LineNo) (f : Monitor → Monitor) : (s.onMon l f).lostNotice = s.lostNotice := rfl
@[simp] theorem State.onMon_gradeNotice (s : State) (l : LineNo) (f : Monitor → Monitor) : (s.onMon l f).gradeNotice = s.gradeNotice := rfl
@[simp] theorem State.onMon_floor (s : State) (l : LineNo) (f : Monitor → Monitor) : (s.onMon l f).floor = s.floor := rfl
@[simp] theorem State.onMon_steer (s : State) (l : LineNo) (f : Monitor → Monitor) : (s.onMon l f).steer = s.steer := rfl
@[simp] theorem State.onMon_bus (s : State) (l : LineNo) (f : Monitor → Monitor) : (s.onMon l f).bus = s.bus := rfl
@[simp] theorem State.onMon_queue (s : State) (l : LineNo) (f : Monitor → Monitor) : (s.onMon l f).queue = s.queue := rfl
@[simp] theorem State.onMon_restartsWaiting (s : State) (l : LineNo) (f : Monitor → Monitor) : (s.onMon l f).restartsWaiting = s.restartsWaiting := rfl
@[simp] theorem State.onMon_service (s : State) (l : LineNo) (f : Monitor → Monitor) : (s.onMon l f).service = s.service := rfl
@[simp] theorem State.onMon_counters (s : State) (l : LineNo) (f : Monitor → Monitor) : (s.onMon l f).counters = s.counters := rfl
@[simp] theorem State.onMon_inquiryDropped (s : State) (l : LineNo) (f : Monitor → Monitor) : (s.onMon l f).inquiryDropped = s.inquiryDropped := rfl
@[simp] theorem State.onMon_peers (s : State) (l : LineNo) (f : Monitor → Monitor) : (s.onMon l f).peers = s.peers := rfl
@[simp] theorem State.onMon_duplicate (s : State) (l : LineNo) (f : Monitor → Monitor) : (s.onMon l f).duplicate = s.duplicate := rfl
@[simp] theorem State.onMon_log (s : State) (l : LineNo) (f : Monitor → Monitor) : (s.onMon l f).log = s.log := rfl
@[simp] theorem State.onMon_flags (s : State) (l : LineNo) (f : Monitor → Monitor) : (s.onMon l f).flags = s.flags := rfl

/-! ### `State.onBus` -/

@[simp] theorem State.onBus_pending (s : State) (f : Bus → Bus) : (s.onBus f).pending = s.pending := rfl
@[simp] theorem State.onBus_due (s : State) (f : Bus → Bus) : (s.onBus f).due = s.due := rfl
@[simp] theorem State.onBus_freeCount (s : State) (f : Bus → Bus) : (s.onBus f).freeCount = s.freeCount := rfl
@[simp] theorem State.onBus_pins (s : State) (f : Bus → Bus) : (s.onBus f).pins = s.pins := rfl
@[simp] theorem State.onBus_inReset (s : State) (f : Bus → Bus) : (s.onBus f).inReset = s.inReset := rfl
@[simp] theorem State.onBus_loader (s : State) (f : Bus → Bus) : (s.onBus f).loader = s.loader := rfl
@[simp] theorem State.onBus_setup (s : State) (f : Bus → Bus) : (s.onBus f).setup = s.setup := rfl
@[simp] theorem State.onBus_lines (s : State) (f : Bus → Bus) : (s.onBus f).lines = s.lines := rfl
@[simp] theorem State.onBus_selected (s : State) (f : Bus → Bus) : (s.onBus f).selected = s.selected := rfl
@[simp] theorem State.onBus_lostNotice (s : State) (f : Bus → Bus) : (s.onBus f).lostNotice = s.lostNotice := rfl
@[simp] theorem State.onBus_gradeNotice (s : State) (f : Bus → Bus) : (s.onBus f).gradeNotice = s.gradeNotice := rfl
@[simp] theorem State.onBus_floor (s : State) (f : Bus → Bus) : (s.onBus f).floor = s.floor := rfl
@[simp] theorem State.onBus_steer (s : State) (f : Bus → Bus) : (s.onBus f).steer = s.steer := rfl
@[simp] theorem State.onBus_queue (s : State) (f : Bus → Bus) : (s.onBus f).queue = s.queue := rfl
@[simp] theorem State.onBus_restartsWaiting (s : State) (f : Bus → Bus) : (s.onBus f).restartsWaiting = s.restartsWaiting := rfl
@[simp] theorem State.onBus_service (s : State) (f : Bus → Bus) : (s.onBus f).service = s.service := rfl
@[simp] theorem State.onBus_counters (s : State) (f : Bus → Bus) : (s.onBus f).counters = s.counters := rfl
@[simp] theorem State.onBus_inquiryDropped (s : State) (f : Bus → Bus) : (s.onBus f).inquiryDropped = s.inquiryDropped := rfl
@[simp] theorem State.onBus_peers (s : State) (f : Bus → Bus) : (s.onBus f).peers = s.peers := rfl
@[simp] theorem State.onBus_duplicate (s : State) (f : Bus → Bus) : (s.onBus f).duplicate = s.duplicate := rfl
@[simp] theorem State.onBus_log (s : State) (f : Bus → Bus) : (s.onBus f).log = s.log := rfl
@[simp] theorem State.onBus_flags (s : State) (f : Bus → Bus) : (s.onBus f).flags = s.flags := rfl

/-! ### `State.onSteer` -/

@[simp] theorem State.onSteer_pending (s : State) (f : Steer → Steer) : (s.onSteer f).pending = s.pending := rfl
@[simp] theorem State.onSteer_due (s : State) (f : Steer → Steer) : (s.onSteer f).due = s.due := rfl
@[simp] theorem State.onSteer_freeCount (s : State) (f : Steer → Steer) : (s.onSteer f).freeCount = s.freeCount := rfl
@[simp] theorem State.onSteer_pins (s : State) (f : Steer → Steer) : (s.onSteer f).pins = s.pins := rfl
@[simp] theorem State.onSteer_inReset (s : State) (f : Steer → Steer) : (s.onSteer f).inReset = s.inReset := rfl
@[simp] theorem State.onSteer_loader (s : State) (f : Steer → Steer) : (s.onSteer f).loader = s.loader := rfl
@[simp] theorem State.onSteer_setup (s : State) (f : Steer → Steer) : (s.onSteer f).setup = s.setup := rfl
@[simp] theorem State.onSteer_lines (s : State) (f : Steer → Steer) : (s.onSteer f).lines = s.lines := rfl
@[simp] theorem State.onSteer_selected (s : State) (f : Steer → Steer) : (s.onSteer f).selected = s.selected := rfl
@[simp] theorem State.onSteer_lostNotice (s : State) (f : Steer → Steer) : (s.onSteer f).lostNotice = s.lostNotice := rfl
@[simp] theorem State.onSteer_gradeNotice (s : State) (f : Steer → Steer) : (s.onSteer f).gradeNotice = s.gradeNotice := rfl
@[simp] theorem State.onSteer_floor (s : State) (f : Steer → Steer) : (s.onSteer f).floor = s.floor := rfl
@[simp] theorem State.onSteer_bus (s : State) (f : Steer → Steer) : (s.onSteer f).bus = s.bus := rfl
@[simp] theorem State.onSteer_queue (s : State) (f : Steer → Steer) : (s.onSteer f).queue = s.queue := rfl
@[simp] theorem State.onSteer_restartsWaiting (s : State) (f : Steer → Steer) : (s.onSteer f).restartsWaiting = s.restartsWaiting := rfl
@[simp] theorem State.onSteer_service (s : State) (f : Steer → Steer) : (s.onSteer f).service = s.service := rfl
@[simp] theorem State.onSteer_counters (s : State) (f : Steer → Steer) : (s.onSteer f).counters = s.counters := rfl
@[simp] theorem State.onSteer_inquiryDropped (s : State) (f : Steer → Steer) : (s.onSteer f).inquiryDropped = s.inquiryDropped := rfl
@[simp] theorem State.onSteer_peers (s : State) (f : Steer → Steer) : (s.onSteer f).peers = s.peers := rfl
@[simp] theorem State.onSteer_duplicate (s : State) (f : Steer → Steer) : (s.onSteer f).duplicate = s.duplicate := rfl
@[simp] theorem State.onSteer_log (s : State) (f : Steer → Steer) : (s.onSteer f).log = s.log := rfl
@[simp] theorem State.onSteer_flags (s : State) (f : Steer → Steer) : (s.onSteer f).flags = s.flags := rfl

/-! ### `State.onCounters` -/

@[simp] theorem State.onCounters_pending (s : State) (f : Counters → Counters) : (s.onCounters f).pending = s.pending := rfl
@[simp] theorem State.onCounters_due (s : State) (f : Counters → Counters) : (s.onCounters f).due = s.due := rfl
@[simp] theorem State.onCounters_freeCount (s : State) (f : Counters → Counters) : (s.onCounters f).freeCount = s.freeCount := rfl
@[simp] theorem State.onCounters_pins (s : State) (f : Counters → Counters) : (s.onCounters f).pins = s.pins := rfl
@[simp] theorem State.onCounters_inReset (s : State) (f : Counters → Counters) : (s.onCounters f).inReset = s.inReset := rfl
@[simp] theorem State.onCounters_loader (s : State) (f : Counters → Counters) : (s.onCounters f).loader = s.loader := rfl
@[simp] theorem State.onCounters_setup (s : State) (f : Counters → Counters) : (s.onCounters f).setup = s.setup := rfl
@[simp] theorem State.onCounters_lines (s : State) (f : Counters → Counters) : (s.onCounters f).lines = s.lines := rfl
@[simp] theorem State.onCounters_selected (s : State) (f : Counters → Counters) : (s.onCounters f).selected = s.selected := rfl
@[simp] theorem State.onCounters_lostNotice (s : State) (f : Counters → Counters) : (s.onCounters f).lostNotice = s.lostNotice := rfl
@[simp] theorem State.onCounters_gradeNotice (s : State) (f : Counters → Counters) : (s.onCounters f).gradeNotice = s.gradeNotice := rfl
@[simp] theorem State.onCounters_floor (s : State) (f : Counters → Counters) : (s.onCounters f).floor = s.floor := rfl
@[simp] theorem State.onCounters_steer (s : State) (f : Counters → Counters) : (s.onCounters f).steer = s.steer := rfl
@[simp] theorem State.onCounters_bus (s : State) (f : Counters → Counters) : (s.onCounters f).bus = s.bus := rfl
@[simp] theorem State.onCounters_queue (s : State) (f : Counters → Counters) : (s.onCounters f).queue = s.queue := rfl
@[simp] theorem State.onCounters_restartsWaiting (s : State) (f : Counters → Counters) : (s.onCounters f).restartsWaiting = s.restartsWaiting := rfl
@[simp] theorem State.onCounters_service (s : State) (f : Counters → Counters) : (s.onCounters f).service = s.service := rfl
@[simp] theorem State.onCounters_inquiryDropped (s : State) (f : Counters → Counters) : (s.onCounters f).inquiryDropped = s.inquiryDropped := rfl
@[simp] theorem State.onCounters_peers (s : State) (f : Counters → Counters) : (s.onCounters f).peers = s.peers := rfl
@[simp] theorem State.onCounters_duplicate (s : State) (f : Counters → Counters) : (s.onCounters f).duplicate = s.duplicate := rfl
@[simp] theorem State.onCounters_log (s : State) (f : Counters → Counters) : (s.onCounters f).log = s.log := rfl
@[simp] theorem State.onCounters_flags (s : State) (f : Counters → Counters) : (s.onCounters f).flags = s.flags := rfl

/-! ### `State.took` -/

@[simp] theorem State.took_pending (s : State) (c : Instr) : (s.took c).pending = s.pending := rfl
@[simp] theorem State.took_freeCount (s : State) (c : Instr) : (s.took c).freeCount = s.freeCount := rfl
@[simp] theorem State.took_pins (s : State) (c : Instr) : (s.took c).pins = s.pins := rfl
@[simp] theorem State.took_inReset (s : State) (c : Instr) : (s.took c).inReset = s.inReset := rfl
@[simp] theorem State.took_loader (s : State) (c : Instr) : (s.took c).loader = s.loader := rfl
@[simp] theorem State.took_setup (s : State) (c : Instr) : (s.took c).setup = s.setup := rfl
@[simp] theorem State.took_lines (s : State) (c : Instr) : (s.took c).lines = s.lines := rfl
@[simp] theorem State.took_selected (s : State) (c : Instr) : (s.took c).selected = s.selected := rfl
@[simp] theorem State.took_lostNotice (s : State) (c : Instr) : (s.took c).lostNotice = s.lostNotice := rfl
@[simp] theorem State.took_gradeNotice (s : State) (c : Instr) : (s.took c).gradeNotice = s.gradeNotice := rfl
@[simp] theorem State.took_floor (s : State) (c : Instr) : (s.took c).floor = s.floor := rfl
@[simp] theorem State.took_steer (s : State) (c : Instr) : (s.took c).steer = s.steer := rfl
@[simp] theorem State.took_bus (s : State) (c : Instr) : (s.took c).bus = s.bus := rfl
@[simp] theorem State.took_queue (s : State) (c : Instr) : (s.took c).queue = s.queue := rfl
@[simp] theorem State.took_restartsWaiting (s : State) (c : Instr) : (s.took c).restartsWaiting = s.restartsWaiting := rfl
@[simp] theorem State.took_service (s : State) (c : Instr) : (s.took c).service = s.service := rfl
@[simp] theorem State.took_counters (s : State) (c : Instr) : (s.took c).counters = s.counters := rfl
@[simp] theorem State.took_inquiryDropped (s : State) (c : Instr) : (s.took c).inquiryDropped = s.inquiryDropped := rfl
@[simp] theorem State.took_peers (s : State) (c : Instr) : (s.took c).peers = s.peers := rfl
@[simp] theorem State.took_duplicate (s : State) (c : Instr) : (s.took c).duplicate = s.duplicate := rfl
@[simp] theorem State.took_log (s : State) (c : Instr) : (s.took c).log = s.log := rfl
@[simp] theorem State.took_flags (s : State) (c : Instr) : (s.took c).flags = s.flags := rfl

/-! ### `State.popped` -/

@[simp] theorem State.popped_pending (s : State) : (s.popped).pending = s.pending := rfl
@[simp] theorem State.popped_due (s : State) : (s.popped).due = s.due := rfl
@[simp] theorem State.popped_freeCount (s : State) : (s.popped).freeCount = s.freeCount := rfl
@[simp] theorem State.popped_pins (s : State) : (s.popped).pins = s.pins := rfl
@[simp] theorem State.popped_inReset (s : State) : (s.popped).inReset = s.inReset := rfl
@[simp] theorem State.popped_loader (s : State) : (s.popped).loader = s.loader := rfl
@[simp] theorem State.popped_setup (s : State) : (s.popped).setup = s.setup := rfl
@[simp] theorem State.popped_lines (s : State) : (s.popped).lines = s.lines := rfl
@[simp] theorem State.popped_selected (s : State) : (s.popped).selected = s.selected := rfl
@[simp] theorem State.popped_lostNotice (s : State) : (s.popped).lostNotice = s.lostNotice := rfl
@[simp] theorem State.popped_gradeNotice (s : State) : (s.popped).gradeNotice = s.gradeNotice := rfl
@[simp] theorem State.popped_floor (s : State) : (s.popped).floor = s.floor := rfl
@[simp] theorem State.popped_steer (s : State) : (s.popped).steer = s.steer := rfl
@[simp] theorem State.popped_bus (s : State) : (s.popped).bus = s.bus := rfl
@[simp] theorem State.popped_service (s : State) : (s.popped).service = s.service := rfl
@[simp] theorem State.popped_counters (s : State) : (s.popped).counters = s.counters := rfl
@[simp] theorem State.popped_inquiryDropped (s : State) : (s.popped).inquiryDropped = s.inquiryDropped := rfl
@[simp] theorem State.popped_peers (s : State) : (s.popped).peers = s.peers := rfl
@[simp] theorem State.popped_duplicate (s : State) : (s.popped).duplicate = s.duplicate := rfl
@[simp] theorem State.popped_log (s : State) : (s.popped).log = s.log := rfl
@[simp] theorem State.popped_flags (s : State) : (s.popped).flags = s.flags := rfl

/-! ### `State.nowDue` -/

@[simp] theorem State.nowDue_pending (s : State) (cs : List Instr) : (s.nowDue cs).pending = s.pending := rfl
@[simp] theorem State.nowDue_freeCount (s : State) (cs : List Instr) : (s.nowDue cs).freeCount = s.freeCount := rfl
@[simp] theorem State.nowDue_pins (s : State) (cs : List Instr) : (s.nowDue cs).pins = s.pins := rfl
@[simp] theorem State.nowDue_inReset (s : State) (cs : List Instr) : (s.nowDue cs).inReset = s.inReset := rfl
@[simp] theorem State.nowDue_loader (s : State) (cs : List Instr) : (s.nowDue cs).loader = s.loader := rfl
@[simp] theorem State.nowDue_setup (s : State) (cs : List Instr) : (s.nowDue cs).setup = s.setup := rfl
@[simp] theorem State.nowDue_lines (s : State) (cs : List Instr) : (s.nowDue cs).lines = s.lines := rfl
@[simp] theorem State.nowDue_selected (s : State) (cs : List Instr) : (s.nowDue cs).selected = s.selected := rfl
@[simp] theorem State.nowDue_lostNotice (s : State) (cs : List Instr) : (s.nowDue cs).lostNotice = s.lostNotice := rfl
@[simp] theorem State.nowDue_gradeNotice (s : State) (cs : List Instr) : (s.nowDue cs).gradeNotice = s.gradeNotice := rfl
@[simp] theorem State.nowDue_floor (s : State) (cs : List Instr) : (s.nowDue cs).floor = s.floor := rfl
@[simp] theorem State.nowDue_steer (s : State) (cs : List Instr) : (s.nowDue cs).steer = s.steer := rfl
@[simp] theorem State.nowDue_bus (s : State) (cs : List Instr) : (s.nowDue cs).bus = s.bus := rfl
@[simp] theorem State.nowDue_queue (s : State) (cs : List Instr) : (s.nowDue cs).queue = s.queue := rfl
@[simp] theorem State.nowDue_restartsWaiting (s : State) (cs : List Instr) : (s.nowDue cs).restartsWaiting = s.restartsWaiting := rfl
@[simp] theorem State.nowDue_service (s : State) (cs : List Instr) : (s.nowDue cs).service = s.service := rfl
@[simp] theorem State.nowDue_counters (s : State) (cs : List Instr) : (s.nowDue cs).counters = s.counters := rfl
@[simp] theorem State.nowDue_inquiryDropped (s : State) (cs : List Instr) : (s.nowDue cs).inquiryDropped = s.inquiryDropped := rfl
@[simp] theorem State.nowDue_peers (s : State) (cs : List Instr) : (s.nowDue cs).peers = s.peers := rfl
@[simp] theorem State.nowDue_duplicate (s : State) (cs : List Instr) : (s.nowDue cs).duplicate = s.duplicate := rfl
@[simp] theorem State.nowDue_log (s : State) (cs : List Instr) : (s.nowDue cs).log = s.log := rfl
@[simp] theorem State.nowDue_flags (s : State) (cs : List Instr) : (s.nowDue cs).flags = s.flags := rfl

/-! ### `State.setPeer` -/

@[simp] theorem State.setPeer_pending (s : State) (p : PeerNo) (e : Peer) : (s.setPeer p e).pending = s.pending := rfl
@[simp] theorem State.setPeer_due (s : State) (p : PeerNo) (e : Peer) : (s.setPeer p e).due = s.due := rfl
@[simp] theorem State.setPeer_freeCount (s : State) (p : PeerNo) (e : Peer) : (s.setPeer p e).freeCount = s.freeCount := rfl
@[simp] theorem State.setPeer_pins (s : State) (p : PeerNo) (e : Peer) : (s.setPeer p e).pins = s.pins := rfl
@[simp] theorem State.setPeer_inReset (s : State) (p : PeerNo) (e : Peer) : (s.setPeer p e).inReset = s.inReset := rfl
@[simp] theorem State.setPeer_loader (s : State) (p : PeerNo) (e : Peer) : (s.setPeer p e).loader = s.loader := rfl
@[simp] theorem State.setPeer_setup (s : State) (p : PeerNo) (e : Peer) : (s.setPeer p e).setup = s.setup := rfl
@[simp] theorem State.setPeer_lines (s : State) (p : PeerNo) (e : Peer) : (s.setPeer p e).lines = s.lines := rfl
@[simp] theorem State.setPeer_selected (s : State) (p : PeerNo) (e : Peer) : (s.setPeer p e).selected = s.selected := rfl
@[simp] theorem State.setPeer_lostNotice (s : State) (p : PeerNo) (e : Peer) : (s.setPeer p e).lostNotice = s.lostNotice := rfl
@[simp] theorem State.setPeer_gradeNotice (s : State) (p : PeerNo) (e : Peer) : (s.setPeer p e).gradeNotice = s.gradeNotice := rfl
@[simp] theorem State.setPeer_floor (s : State) (p : PeerNo) (e : Peer) : (s.setPeer p e).floor = s.floor := rfl
@[simp] theorem State.setPeer_steer (s : State) (p : PeerNo) (e : Peer) : (s.setPeer p e).steer = s.steer := rfl
@[simp] theorem State.setPeer_bus (s : State) (p : PeerNo) (e : Peer) : (s.setPeer p e).bus = s.bus := rfl
@[simp] theorem State.setPeer_queue (s : State) (p : PeerNo) (e : Peer) : (s.setPeer p e).queue = s.queue := rfl
@[simp] theorem State.setPeer_restartsWaiting (s : State) (p : PeerNo) (e : Peer) : (s.setPeer p e).restartsWaiting = s.restartsWaiting := rfl
@[simp] theorem State.setPeer_service (s : State) (p : PeerNo) (e : Peer) : (s.setPeer p e).service = s.service := rfl
@[simp] theorem State.setPeer_counters (s : State) (p : PeerNo) (e : Peer) : (s.setPeer p e).counters = s.counters := rfl
@[simp] theorem State.setPeer_inquiryDropped (s : State) (p : PeerNo) (e : Peer) : (s.setPeer p e).inquiryDropped = s.inquiryDropped := rfl
@[simp] theorem State.setPeer_duplicate (s : State) (p : PeerNo) (e : Peer) : (s.setPeer p e).duplicate = s.duplicate := rfl
@[simp] theorem State.setPeer_log (s : State) (p : PeerNo) (e : Peer) : (s.setPeer p e).log = s.log := rfl
@[simp] theorem State.setPeer_flags (s : State) (p : PeerNo) (e : Peer) : (s.setPeer p e).flags = s.flags := rfl

@[simp] theorem State.onBus_bus (s : State) (f : Bus → Bus) : (s.onBus f).bus = f s.bus := rfl
@[simp] theorem State.onSteer_steer (s : State) (f : Steer → Steer) : (s.onSteer f).steer = f s.steer := rfl
@[simp] theorem State.onCounters_counters (s : State) (f : Counters → Counters) : (s.onCounters f).counters = f s.counters := rfl
@[simp] theorem State.took_due (s : State) (c : Instr) : (s.took c).due = s.due.erase c := rfl
@[simp] theorem State.popped_queue (s : State) : s.popped.queue = s.queue.drop 1 := rfl
@[simp] theorem State.popped_restartsWaiting (s : State) : s.popped.restartsWaiting = s.restartsWaiting := rfl
@[simp] theorem State.nowDue_due (s : State) (cs : List Instr) : (s.nowDue cs).due = s.due ++ cs := rfl

/-! ### One line and the others -/

theorem State.line_setLine (s : State) (l m : LineNo) (x : Line) : (s.setLine l x).line m = if m = l then x else s.line m := by
  simp only [State.line, State.setLine, Vector.get_eq_getElem, Vector.getElem_set]
  by_cases h : m = l
  · simp [h]
  · have : l.val ≠ m.val := fun e => h (Fin.ext e.symm)
    simp [h, this]

@[simp] theorem State.setLine_line (s : State) (l : LineNo) (x : Line) : (s.setLine l x).line l = x := by
  simp [State.line_setLine]

theorem State.setLine_line_ne (s : State) (l m : LineNo) (x : Line) (h : m ≠ l) : (s.setLine l x).line m = s.line m := by
  simp [State.line_setLine, h]

@[simp] theorem State.onLrx_line (s : State) (l : LineNo) (f : Lrx → Lrx) :
    (s.onLrx l f).line l = { s.line l with lrx := f (s.line l).lrx } := State.setLine_line s l _

theorem State.onLrx_line_ne (s : State) (l m : LineNo) (f : Lrx → Lrx) (h : m ≠ l) : (s.onLrx l f).line m = s.line m :=
  State.setLine_line_ne s l m _ h

@[simp] theorem State.onStore_line (s : State) (l : LineNo) (f : Store → Store) :
    (s.onStore l f).line l = { s.line l with store := f (s.line l).store } := State.setLine_line s l _

theorem State.onStore_line_ne (s : State) (l m : LineNo) (f : Store → Store) (h : m ≠ l) : (s.onStore l f).line m = s.line m :=
  State.setLine_line_ne s l m _ h

@[simp] theorem State.onFramer_line (s : State) (l : LineNo) (f : Framer → Framer) :
    (s.onFramer l f).line l = { s.line l with framer := f (s.line l).framer } := State.setLine_line s l _

theorem State.onFramer_line_ne (s : State) (l m : LineNo) (f : Framer → Framer) (h : m ≠ l) : (s.onFramer l f).line m = s.line m :=
  State.setLine_line_ne s l m _ h

@[simp] theorem State.onMon_line (s : State) (l : LineNo) (f : Monitor → Monitor) :
    (s.onMon l f).line l = { s.line l with mon := f (s.line l).mon } := State.setLine_line s l _

theorem State.onMon_line_ne (s : State) (l m : LineNo) (f : Monitor → Monitor) (h : m ≠ l) : (s.onMon l f).line m = s.line m :=
  State.setLine_line_ne s l m _ h

/-! ### One peer entry and the others -/

theorem State.peer_setPeer (s : State) (p q : PeerNo) (e : Peer) : (s.setPeer p e).peer q = if q = p then e else s.peer q := by
  simp only [State.peer, State.setPeer, Vector.get_eq_getElem, Vector.getElem_set]
  by_cases h : q = p
  · simp [h]
  · have : p.val ≠ q.val := fun x => h (Fin.ext x.symm)
    simp [h, this]

/-! ### Views that read no line -/


@[simp] theorem State.setLine_running (s : State) (l : LineNo) (x : Line) : (s.setLine l x).running = s.running := rfl
@[simp] theorem State.setLine_steered (s : State) (l : LineNo) (x : Line) : (s.setLine l x).steered = s.steered := rfl
@[simp] theorem State.setLine_number (s : State) (l : LineNo) (x : Line) : (s.setLine l x).number = s.number := rfl
@[simp] theorem State.setLine_standalone (s : State) (l : LineNo) (x : Line) : (s.setLine l x).standalone = s.standalone := rfl
@[simp] theorem State.setLine_onBusNow (s : State) (l : LineNo) (x : Line) : (s.setLine l x).onBusNow = s.onBusNow := rfl
@[simp] theorem State.setLine_interval (s : State) (l : LineNo) (x : Line) : (s.setLine l x).interval = s.interval := rfl
@[simp] theorem State.setLine_lineSetup (s : State) (l : LineNo) (x : Line) (m : LineNo) : (s.setLine l x).lineSetup m = s.lineSetup m := rfl
@[simp] theorem State.setLine_enabled (s : State) (l : LineNo) (x : Line) (m : LineNo) : (s.setLine l x).enabled m = s.enabled m := rfl
@[simp] theorem State.onLrx_running (s : State) (l : LineNo) (f : Lrx → Lrx) : (s.onLrx l f).running = s.running := rfl
@[simp] theorem State.onLrx_steered (s : State) (l : LineNo) (f : Lrx → Lrx) : (s.onLrx l f).steered = s.steered := rfl
@[simp] theorem State.onLrx_number (s : State) (l : LineNo) (f : Lrx → Lrx) : (s.onLrx l f).number = s.number := rfl
@[simp] theorem State.onLrx_standalone (s : State) (l : LineNo) (f : Lrx → Lrx) : (s.onLrx l f).standalone = s.standalone := rfl
@[simp] theorem State.onLrx_onBusNow (s : State) (l : LineNo) (f : Lrx → Lrx) : (s.onLrx l f).onBusNow = s.onBusNow := rfl
@[simp] theorem State.onLrx_interval (s : State) (l : LineNo) (f : Lrx → Lrx) : (s.onLrx l f).interval = s.interval := rfl
@[simp] theorem State.onLrx_lineSetup (s : State) (l : LineNo) (f : Lrx → Lrx) (m : LineNo) : (s.onLrx l f).lineSetup m = s.lineSetup m := rfl
@[simp] theorem State.onLrx_enabled (s : State) (l : LineNo) (f : Lrx → Lrx) (m : LineNo) : (s.onLrx l f).enabled m = s.enabled m := rfl
@[simp] theorem State.onStore_running (s : State) (l : LineNo) (f : Store → Store) : (s.onStore l f).running = s.running := rfl
@[simp] theorem State.onStore_steered (s : State) (l : LineNo) (f : Store → Store) : (s.onStore l f).steered = s.steered := rfl
@[simp] theorem State.onStore_number (s : State) (l : LineNo) (f : Store → Store) : (s.onStore l f).number = s.number := rfl
@[simp] theorem State.onStore_standalone (s : State) (l : LineNo) (f : Store → Store) : (s.onStore l f).standalone = s.standalone := rfl
@[simp] theorem State.onStore_onBusNow (s : State) (l : LineNo) (f : Store → Store) : (s.onStore l f).onBusNow = s.onBusNow := rfl
@[simp] theorem State.onStore_interval (s : State) (l : LineNo) (f : Store → Store) : (s.onStore l f).interval = s.interval := rfl
@[simp] theorem State.onStore_lineSetup (s : State) (l : LineNo) (f : Store → Store) (m : LineNo) : (s.onStore l f).lineSetup m = s.lineSetup m := rfl
@[simp] theorem State.onStore_enabled (s : State) (l : LineNo) (f : Store → Store) (m : LineNo) : (s.onStore l f).enabled m = s.enabled m := rfl
@[simp] theorem State.onFramer_running (s : State) (l : LineNo) (f : Framer → Framer) : (s.onFramer l f).running = s.running := rfl
@[simp] theorem State.onFramer_steered (s : State) (l : LineNo) (f : Framer → Framer) : (s.onFramer l f).steered = s.steered := rfl
@[simp] theorem State.onFramer_number (s : State) (l : LineNo) (f : Framer → Framer) : (s.onFramer l f).number = s.number := rfl
@[simp] theorem State.onFramer_standalone (s : State) (l : LineNo) (f : Framer → Framer) : (s.onFramer l f).standalone = s.standalone := rfl
@[simp] theorem State.onFramer_onBusNow (s : State) (l : LineNo) (f : Framer → Framer) : (s.onFramer l f).onBusNow = s.onBusNow := rfl
@[simp] theorem State.onFramer_interval (s : State) (l : LineNo) (f : Framer → Framer) : (s.onFramer l f).interval = s.interval := rfl
@[simp] theorem State.onFramer_lineSetup (s : State) (l : LineNo) (f : Framer → Framer) (m : LineNo) : (s.onFramer l f).lineSetup m = s.lineSetup m := rfl
@[simp] theorem State.onFramer_enabled (s : State) (l : LineNo) (f : Framer → Framer) (m : LineNo) : (s.onFramer l f).enabled m = s.enabled m := rfl
@[simp] theorem State.onMon_running (s : State) (l : LineNo) (f : Monitor → Monitor) : (s.onMon l f).running = s.running := rfl
@[simp] theorem State.onMon_steered (s : State) (l : LineNo) (f : Monitor → Monitor) : (s.onMon l f).steered = s.steered := rfl
@[simp] theorem State.onMon_number (s : State) (l : LineNo) (f : Monitor → Monitor) : (s.onMon l f).number = s.number := rfl
@[simp] theorem State.onMon_standalone (s : State) (l : LineNo) (f : Monitor → Monitor) : (s.onMon l f).standalone = s.standalone := rfl
@[simp] theorem State.onMon_onBusNow (s : State) (l : LineNo) (f : Monitor → Monitor) : (s.onMon l f).onBusNow = s.onBusNow := rfl
@[simp] theorem State.onMon_interval (s : State) (l : LineNo) (f : Monitor → Monitor) : (s.onMon l f).interval = s.interval := rfl
@[simp] theorem State.onMon_lineSetup (s : State) (l : LineNo) (f : Monitor → Monitor) (m : LineNo) : (s.onMon l f).lineSetup m = s.lineSetup m := rfl
@[simp] theorem State.onMon_enabled (s : State) (l : LineNo) (f : Monitor → Monitor) (m : LineNo) : (s.onMon l f).enabled m = s.enabled m := rfl
@[simp] theorem State.onBus_running (s : State) (f : Bus → Bus) : (s.onBus f).running = s.running := rfl
@[simp] theorem State.onBus_steered (s : State) (f : Bus → Bus) : (s.onBus f).steered = s.steered := rfl
@[simp] theorem State.onBus_number (s : State) (f : Bus → Bus) : (s.onBus f).number = s.number := rfl
@[simp] theorem State.onBus_standalone (s : State) (f : Bus → Bus) : (s.onBus f).standalone = s.standalone := rfl
@[simp] theorem State.onBus_onBusNow (s : State) (f : Bus → Bus) : (s.onBus f).onBusNow = s.onBusNow := rfl
@[simp] theorem State.onBus_interval (s : State) (f : Bus → Bus) : (s.onBus f).interval = s.interval := rfl
@[simp] theorem State.onBus_lineSetup (s : State) (f : Bus → Bus) (m : LineNo) : (s.onBus f).lineSetup m = s.lineSetup m := rfl
@[simp] theorem State.onBus_enabled (s : State) (f : Bus → Bus) (m : LineNo) : (s.onBus f).enabled m = s.enabled m := rfl
@[simp] theorem State.onSteer_running (s : State) (f : Steer → Steer) : (s.onSteer f).running = s.running := rfl
@[simp] theorem State.onSteer_steered (s : State) (f : Steer → Steer) : (s.onSteer f).steered = s.steered := rfl
@[simp] theorem State.onSteer_number (s : State) (f : Steer → Steer) : (s.onSteer f).number = s.number := rfl
@[simp] theorem State.onSteer_standalone (s : State) (f : Steer → Steer) : (s.onSteer f).standalone = s.standalone := rfl
@[simp] theorem State.onSteer_onBusNow (s : State) (f : Steer → Steer) : (s.onSteer f).onBusNow = s.onBusNow := rfl
@[simp] theorem State.onSteer_interval (s : State) (f : Steer → Steer) : (s.onSteer f).interval = s.interval := rfl
@[simp] theorem State.onSteer_lineSetup (s : State) (f : Steer → Steer) (m : LineNo) : (s.onSteer f).lineSetup m = s.lineSetup m := rfl
@[simp] theorem State.onSteer_enabled (s : State) (f : Steer → Steer) (m : LineNo) : (s.onSteer f).enabled m = s.enabled m := rfl
@[simp] theorem State.onCounters_running (s : State) (f : Counters → Counters) : (s.onCounters f).running = s.running := rfl
@[simp] theorem State.onCounters_steered (s : State) (f : Counters → Counters) : (s.onCounters f).steered = s.steered := rfl
@[simp] theorem State.onCounters_number (s : State) (f : Counters → Counters) : (s.onCounters f).number = s.number := rfl
@[simp] theorem State.onCounters_standalone (s : State) (f : Counters → Counters) : (s.onCounters f).standalone = s.standalone := rfl
@[simp] theorem State.onCounters_onBusNow (s : State) (f : Counters → Counters) : (s.onCounters f).onBusNow = s.onBusNow := rfl
@[simp] theorem State.onCounters_interval (s : State) (f : Counters → Counters) : (s.onCounters f).interval = s.interval := rfl
@[simp] theorem State.onCounters_lineSetup (s : State) (f : Counters → Counters) (m : LineNo) : (s.onCounters f).lineSetup m = s.lineSetup m := rfl
@[simp] theorem State.onCounters_enabled (s : State) (f : Counters → Counters) (m : LineNo) : (s.onCounters f).enabled m = s.enabled m := rfl
@[simp] theorem State.took_running (s : State) (c : Instr) : (s.took c).running = s.running := rfl
@[simp] theorem State.took_steered (s : State) (c : Instr) : (s.took c).steered = s.steered := rfl
@[simp] theorem State.took_number (s : State) (c : Instr) : (s.took c).number = s.number := rfl
@[simp] theorem State.took_standalone (s : State) (c : Instr) : (s.took c).standalone = s.standalone := rfl
@[simp] theorem State.took_onBusNow (s : State) (c : Instr) : (s.took c).onBusNow = s.onBusNow := rfl
@[simp] theorem State.took_interval (s : State) (c : Instr) : (s.took c).interval = s.interval := rfl
@[simp] theorem State.took_lineSetup (s : State) (c : Instr) (m : LineNo) : (s.took c).lineSetup m = s.lineSetup m := rfl
@[simp] theorem State.took_enabled (s : State) (c : Instr) (m : LineNo) : (s.took c).enabled m = s.enabled m := rfl
@[simp] theorem State.popped_running (s : State) : (s.popped).running = s.running := rfl
@[simp] theorem State.popped_steered (s : State) : (s.popped).steered = s.steered := rfl
@[simp] theorem State.popped_number (s : State) : (s.popped).number = s.number := rfl
@[simp] theorem State.popped_standalone (s : State) : (s.popped).standalone = s.standalone := rfl
@[simp] theorem State.popped_onBusNow (s : State) : (s.popped).onBusNow = s.onBusNow := rfl
@[simp] theorem State.popped_interval (s : State) : (s.popped).interval = s.interval := rfl
@[simp] theorem State.popped_lineSetup (s : State) (m : LineNo) : (s.popped).lineSetup m = s.lineSetup m := rfl
@[simp] theorem State.popped_enabled (s : State) (m : LineNo) : (s.popped).enabled m = s.enabled m := rfl
@[simp] theorem State.nowDue_running (s : State) (cs : List Instr) : (s.nowDue cs).running = s.running := rfl
@[simp] theorem State.nowDue_steered (s : State) (cs : List Instr) : (s.nowDue cs).steered = s.steered := rfl
@[simp] theorem State.nowDue_number (s : State) (cs : List Instr) : (s.nowDue cs).number = s.number := rfl
@[simp] theorem State.nowDue_standalone (s : State) (cs : List Instr) : (s.nowDue cs).standalone = s.standalone := rfl
@[simp] theorem State.nowDue_onBusNow (s : State) (cs : List Instr) : (s.nowDue cs).onBusNow = s.onBusNow := rfl
@[simp] theorem State.nowDue_interval (s : State) (cs : List Instr) : (s.nowDue cs).interval = s.interval := rfl
@[simp] theorem State.nowDue_lineSetup (s : State) (cs : List Instr) (m : LineNo) : (s.nowDue cs).lineSetup m = s.lineSetup m := rfl
@[simp] theorem State.nowDue_enabled (s : State) (cs : List Instr) (m : LineNo) : (s.nowDue cs).enabled m = s.enabled m := rfl
@[simp] theorem State.setPeer_running (s : State) (p : PeerNo) (e : Peer) : (s.setPeer p e).running = s.running := rfl
@[simp] theorem State.setPeer_steered (s : State) (p : PeerNo) (e : Peer) : (s.setPeer p e).steered = s.steered := rfl
@[simp] theorem State.setPeer_number (s : State) (p : PeerNo) (e : Peer) : (s.setPeer p e).number = s.number := rfl
@[simp] theorem State.setPeer_standalone (s : State) (p : PeerNo) (e : Peer) : (s.setPeer p e).standalone = s.standalone := rfl
@[simp] theorem State.setPeer_onBusNow (s : State) (p : PeerNo) (e : Peer) : (s.setPeer p e).onBusNow = s.onBusNow := rfl
@[simp] theorem State.setPeer_interval (s : State) (p : PeerNo) (e : Peer) : (s.setPeer p e).interval = s.interval := rfl
@[simp] theorem State.setPeer_lineSetup (s : State) (p : PeerNo) (e : Peer) (m : LineNo) : (s.setPeer p e).lineSetup m = s.lineSetup m := rfl
@[simp] theorem State.setPeer_enabled (s : State) (p : PeerNo) (e : Peer) (m : LineNo) : (s.setPeer p e).enabled m = s.enabled m := rfl

end Sys2Proof.Machine
end

