-- ==== Sys2Proof/Laws/Clock.lean ====
section
/-! SUPPORT. What the pieces of a fine-clock period do: floor time, the bulletin in flight, the recovery of bit times, and the
idle step as a whole (chapters 4 and 6; log 1). -/

namespace Sys2Proof.Machine

/-! ### Floor time -/

/-- Unshifted floor time carries the old generation (R71). -/
@[simp] theorem Floor.stampGeneration_of_shift (f : Floor) (e : Int) (h : f.shift = some e) :
    f.stampGeneration = f.unshifted := by simp [Floor.stampGeneration, h]

@[simp] theorem Floor.stampGeneration_of_none (f : Floor) (h : f.shift = none) : f.stampGeneration = f.generation := by
  simp [Floor.stampGeneration, h]

/-- All that a period can do to floor time: shift it, end the frame, read 32767 again, or move one fu on (R63, R65, R70). -/
theorem tickFloor_cases (s : State) :
    (∃ e, s.floor.shift = some e ∧ tickFloor s = { s with floor := { s.floor with time := floorMod (1 - e), shift := none } })
      ∨ (s.floor.shift = none ∧ s.floor.left ≤ 1
        ∧ tickFloor s = { s with
            floor := { s.floor with time := 0, secondRead := false }, due := s.due ++ [.floorFrameBoundary] })
      ∨ (s.floor.shift = none ∧ 1 < s.floor.left ∧ s.floor.time = 32767
        ∧ tickFloor s = { s with floor := { s.floor with secondRead := true } })
      ∨ (s.floor.shift = none ∧ 1 < s.floor.left ∧ s.floor.time ≠ 32767
        ∧ tickFloor s = { s with floor := { s.floor with time := s.floor.time + 1 } }) := by
  cases h : s.floor.shift with
  | some e => exact .inl ⟨e, rfl, by simp [tickFloor, h]⟩
  | none =>
    by_cases g : s.floor.left ≤ 1
    · exact .inr (.inl ⟨rfl, g, by simp [tickFloor, h, g, State.nowDue]⟩)
    · by_cases t : s.floor.time = 32767
      · exact .inr (.inr (.inl ⟨rfl, by omega, t, by simp [tickFloor, h, g, t]⟩))
      · exact .inr (.inr (.inr ⟨rfl, by omega, t, by simp [tickFloor, h, g, t]⟩))

/-- A period's floor time touches the floor clock and the list of own commands alone. -/
theorem tickFloor_frame (s : State) : { tickFloor s with floor := s.floor, due := s.due } = s := by
  obtain ⟨e, -, h⟩ | ⟨-, -, h⟩ | ⟨-, -, -, h⟩ | ⟨-, -, -, h⟩ := tickFloor_cases s <;> rw [h]

/-! ### The bulletin in flight -/

/-- With nothing in SENDING the transmit path stands. -/
theorem tickSending_of_not_sending (s : State) (h : s.bus.sending = false) : tickSending s = s := by
  unfold tickSending
  cases g : s.bus.flight with
  | none => rfl
  | some f =>
    have : f.phase ≠ .sending := by simpa [Bus.sending, g] using h
    simp [this]

/-- A mismatch once found stands, and none is found but at the centre of a half-bit whose level the sense does not show. -/
theorem readBack_cases (s : State) (f : Flight) (octets : List Octet) (sent total : Nat) :
    readBack s f octets sent total = f.stop
      ∨ (f.stop = none ∧ sent % 32 = 16 ∧ s.pins.senseLevel ≠ wireLevel octets sent
        ∧ readBack s f octets sent total = some (min total ((sent / Config.bitTime + 2) * Config.bitTime))) := by
  unfold readBack
  split
  · next h =>
    simp only [Bool.and_eq_true, Option.isNone_iff_eq_none, beq_iff_eq, bne_iff_ne] at h
    exact .inr ⟨h.1.1, h.1.2, h.2, rfl⟩
  · exact .inl rfl

/-- A period of a transmission touches the bulletin in flight and the list of own commands alone: one period more is sent, and
it ends by a collision, by its release, or goes on. -/
theorem tickSending_spec (s : State) (f : Flight) (h : s.bus.flight = some f) (hs : f.phase = .sending) :
    ∃ stop cs, stop = readBack s f (withCheck (s.bus.content f.slot)) (f.sent + 1)
        (Config.bitTime * (26 + 8 * (withCheck (s.bus.content f.slot)).length))
      ∧ tickSending s = { s with
        bus := { s.bus with flight := some { f with sent := f.sent + 1, stop := stop } }, due := s.due ++ cs }
      ∧ cs = if stop = some (f.sent + 1) then [.collision]
        else if f.sent + 1 = Config.bitTime * (26 + 8 * (withCheck (s.bus.content f.slot)).length) then [.transmissionRelease]
        else [] := by
  refine ⟨_, _, rfl, ?_, rfl⟩
  simp only [tickSending, h, hs, if_true]
  split
  · rfl
  · split
    · rfl
    · simp [State.onBus]

/-! ### The recovery of bit times -/

/-- A delimiter taken leaves no bit time held, and nothing else of the recovery moves. -/
@[simp] theorem Recovery.spent_recent (r : Recovery) : r.spent.recent = [] := rfl
@[simp] theorem Recovery.spent_locked (r : Recovery) : r.spent.locked = r.locked := rfl
@[simp] theorem Recovery.spent_phase (r : Recovery) : r.spent.phase = r.phase := rfl
@[simp] theorem Recovery.spent_since (r : Recovery) : r.spent.since = r.since := rfl
@[simp] theorem Recovery.spent_mark (r : Recovery) : r.spent.mark = r.mark := rfl
@[simp] theorem Recovery.spent_first (r : Recovery) : r.spent.first = r.first := rfl

/-- With no bit time held a delimiter stands at the bit time of its command (log 8). -/
@[simp] theorem State.delimiterMark_of_none (s : State) (h : s.bus.recovery.recent = []) : s.delimiterMark = s.markNow := by
  unfold State.delimiterMark
  rw [h]
  split <;> simp_all

/-- The receive path touches its recovery and the list of own commands alone. -/
theorem tickReceive_frame (edge : Bool) (s : State) :
    { tickReceive edge s with bus := { (tickReceive edge s).bus with recovery := s.bus.recovery }, due := s.due } = s := by
  unfold tickReceive
  dsimp only
  split <;> rfl

/-! ### The REPORT in building -/

/-- Reading a unit leaves what the INQUIRY asked for and the time alone, and takes at most one unit more. -/
theorem readUnit_keeps (s : State) (b : Build) :
    readUnit s b = { b with
        unitsDone := (readUnit s b).unitsDone, payload := (readUnit s b).payload, items := (readUnit s b).items
        more := (readUnit s b).more, gap := (readUnit s b).gap }
      ∧ b.unitsDone ≤ (readUnit s b).unitsDone := by
  unfold readUnit
  split
  · exact ⟨rfl, Nat.le_succ _⟩
  · exact ⟨rfl, Nat.le_refl _⟩

/-- So does reading on. -/
theorem readUnits_keeps (s : State) (n : Nat) (b : Build) :
    readUnits s n b = { b with
        unitsDone := (readUnits s n b).unitsDone, payload := (readUnits s n b).payload, items := (readUnits s n b).items
        more := (readUnits s n b).more, gap := (readUnits s n b).gap }
      ∧ b.unitsDone ≤ (readUnits s n b).unitsDone := by
  induction n generalizing b with
  | zero => exact ⟨rfl, Nat.le_refl _⟩
  | succ n ih =>
    obtain ⟨h, g⟩ := ih (readUnit s b)
    obtain ⟨h', g'⟩ := readUnit_keeps s b
    refine ⟨?_, Nat.le_trans g' g⟩
    rw [show readUnits s (n + 1) b = readUnits s n (readUnit s b) from rfl, h, h']

/-- With nothing in building the bulletin unit stands. -/
@[simp] theorem tickService_of_none (s : State) (h : s.service = none) : tickService s = s := by simp [tickService, h]

/-- A period of a building: units are read, one period less is left, and the submission falls due as the last passes. -/
theorem tickService_of_some (s : State) (b : Build) (h : s.service = some b) :
    tickService s = { s with
      service := some (readUnits s (Config.unitsRead s.freeCount) { b with age := b.age + 1 }), freeCount := s.freeCount + 1
      due := s.due ++ if b.age + 1 = b.delay then [.reportSubmission] else [] } := by
  simp only [tickService, h]
  split <;> simp [State.nowDue]

/-! ### The carrier's count (R103; log 31) -/

/-- With nothing in SENDING the driver makes no transition. -/
theorem driverEdge_of_not_sending (s : State) (h : s.bus.sending = false) : driverEdge s = false := by
  unfold Bus.sending at h
  unfold driverEdge
  cases e : s.bus.flight with
  | none => rfl
  | some f => simp only [e] at h; simp [h]

/-- In SENDING it makes one where the driver goes off, or where the next level differs from the last. -/
theorem driverEdge_of_sending (s : State) (f : Flight) (h : s.bus.flight = some f) (p : f.phase = .sending) :
    driverEdge s = true ↔ f.stop = some (f.sent + 1)
      ∨ wireLevel (withCheck (s.bus.content f.slot)) (f.sent + 1) ≠ wireLevel (withCheck (s.bus.content f.slot)) f.sent := by
  simp [driverEdge, h, p]

/-- A transition on the pair is one of the level at the receive path or one of the driver. -/
theorem busEdge_iff (s : State) : busEdge s = true ↔ s.pins.busLevel ≠ s.bus.lastLevel ∨ driverEdge s = true := by
  simp [busEdge, pairEdge]

/-! ### The services (R126; log 37) -/

/-- The head of the queue is served exactly when it is there, nothing else is in service, and no RESTART waits. -/
theorem servable_eq_some (s : State) (e : RxEntry) :
    servable s = some e ↔ s.running = true ∧ s.service = none ∧ s.restartsWaiting = 0 ∧ s.queue.head? = some e := by
  simp [servable, State.serves, and_assoc]

/-- A RESTART that waits comes before the queue. -/
theorem nextService_of_waiting (s : State) (r : s.running = true) (h : s.service = none) (w : 0 < s.restartsWaiting) :
    nextService s = some .restart := by simp [nextService, State.serves, r, h, w]

/-- With none waiting it is the command of the queue's head, where that may be served. -/
theorem nextService_of_none_waiting (s : State) (w : s.restartsWaiting = 0) :
    nextService s = (servable s).bind serveCommand := by simp [nextService, w]

/-- A soft restart empties the queue and counts the RESTARTs that stood in it (R128, R155, R177; log 37). -/
@[simp] theorem softRestart_queue (behind : List RxEntry) (n : Nat) (s : State) : (softRestart behind n s).queue = [] := rfl
@[simp] theorem softRestart_restartsWaiting (behind : List RxEntry) (n : Nat) (s : State) :
    (softRestart behind n s).restartsWaiting = n + behind.countP RxEntry.restarts := rfl
@[simp] theorem softRestart_selected (behind : List RxEntry) (n : Nat) (s : State) : (softRestart behind n s).selected = none := rfl
@[simp] theorem softRestart_duplicate (behind : List RxEntry) (n : Nat) (s : State) : (softRestart behind n s).duplicate = false := rfl
@[simp] theorem softRestart_peers (behind : List RxEntry) (n : Nat) (s : State) :
    (softRestart behind n s).peers = Vector.replicate 12 {} := rfl

/-- All that RESTART can do: one that waits is served, or the head of the queue if it is one, or nothing. -/
theorem execRestart_cases (s : State) :
    (s.serves = true ∧ 0 < s.restartsWaiting ∧ execRestart s = .next (softRestart s.queue (s.restartsWaiting - 1) s))
      ∨ (¬ (s.serves = true ∧ 0 < s.restartsWaiting)
        ∧ ((∃ q, headOfKind s 7 = some q ∧ execRestart s = .next (softRestart (s.queue.drop 1) 0 s))
          ∨ (headOfKind s 7 = none ∧ execRestart s = .next s))) := by
  by_cases h : s.serves = true ∧ 0 < s.restartsWaiting
  · exact .inl ⟨h.1, h.2, by simp [execRestart, h]⟩
  · have g : (s.serves && decide (0 < s.restartsWaiting)) = false := by simpa using h
    refine .inr ⟨h, ?_⟩
    cases q : headOfKind s 7 with
    | some e => exact .inl ⟨e, rfl, by simp [execRestart, g, q]⟩
    | none => exact .inr ⟨rfl, by simp [execRestart, g, q]⟩

/-! ### The idle step -/

/-- Held in reset, a period changes nothing (R170). -/
@[simp] theorem tick_of_reset (s : State) (h : s.inReset = true) : tick s = s := by simp [tick, h]

/-- All that the idle step can do: hand over the next own command that still stands, or let a period pass. -/
theorem idle_cases (s : State) :
    (∃ c, nextOwn { s with due := s.due.filter (stillDue s) } = some c
        ∧ idle s = { s with pending := [asItStands { s with due := s.due.filter (stillDue s) } c]
                            due := (s.due.filter (stillDue s)).erase c })
      ∨ (nextOwn { s with due := s.due.filter (stillDue s) } = none
        ∧ idle s = tick { s with due := s.due.filter (stillDue s) }) := by
  unfold idle
  dsimp only
  cases h : nextOwn { s with due := s.due.filter (stillDue s) } with
  | some c => exact .inl ⟨c, rfl, rfl⟩
  | none => exact .inr ⟨rfl, rfl⟩

end Sys2Proof.Machine
end

