-- ==== Sys2Proof/Laws/Ops.lean ====
section
/-! SUPPORT. What the shared operations over lines, peers, phases, the slip log and the wire forms do. -/

namespace Sys2Proof.Machine

/-! ### Lines -/

/-- Two states with the same lines one by one have the same lines. -/
theorem State.lines_ext (s t : State) (h : ∀ l, s.line l = t.line l) : s.lines = t.lines := by
  apply Vector.ext
  intro i hi
  exact h ⟨i, hi⟩

/-- Setting a line changes nothing but that line. -/
theorem onlyLine_setLine (s : State) (l : LineNo) (x : Line) : OnlyLine l s (s.setLine l x) :=
  ⟨fun m h => State.setLine_line_ne s l m x h, rfl⟩

/-- What holds of the state, and is kept by the operation on every line of the list, holds at the end. -/
theorem State.forLines_induct (P : State → Prop) (f : State → LineNo → State) (ls : List LineNo) (s : State) (h : P s)
    (step : ∀ t l, l ∈ ls → P t → P (f t l)) : P (s.forLines ls f) := by
  induction ls generalizing s with
  | nil => exact h
  | cons l ls ih =>
    exact ih (f s l) (step s l (List.mem_cons_self ..) h) fun t m hm => step t m (List.mem_cons_of_mem _ hm)

/-- Every line is in the list of all lines. -/
theorem mem_allLines (l : LineNo) : l ∈ allLines := by revert l; decide

/-- The enabled lines are those whose enable field is set. -/
theorem mem_enabledLines (s : State) (l : LineNo) : l ∈ s.enabledLines ↔ s.enabled l = true := by
  simp [State.enabledLines, mem_allLines]

/-! ### Peers -/

/-- Every position is in the list of all positions. -/
theorem mem_allPeers (p : PeerNo) : p ∈ allPeers := by revert p; decide

/-- A value written at each position of a list of positions, read back. -/
theorem foldl_set_get {α : Type} (g : PeerNo → α) (ls : List PeerNo) (v : Vector α 12) (p : PeerNo) :
    (ls.foldl (fun v (q : PeerNo) => v.set q (g q)) v).get p = if p ∈ ls then g p else v.get p := by
  induction ls generalizing v with
  | nil => simp
  | cons q ls ih =>
    rw [List.foldl_cons, ih]
    by_cases hp : p ∈ ls
    · simp [hp]
    · by_cases hq : p = q
      · subst hq
        simp [hp, Vector.get_eq_getElem]
      · have hq' : q.val ≠ p.val := fun e => hq (Fin.ext e.symm)
        simp [hp, hq, Vector.get_eq_getElem, hq']

/-- Every entry is changed, each from its own value. -/
@[simp] theorem mapPeers_get (f : Peer → Peer) (ps : Vector Peer 12) (p : PeerNo) : (mapPeers f ps).get p = f (ps.get p) := by
  rw [mapPeers, foldl_set_get fun q => f (ps.get q), if_pos (mem_allPeers p)]

/-- The snapshot shows each entry as it is handed (R145). -/
@[simp] theorem snapshotOf_get (own : Octet) (ps : Vector Peer 12) (p : PeerNo) :
    (snapshotOf own ps).get p = snapOf own (ps.get p) := by
  rw [snapshotOf, foldl_set_get fun q => snapOf own (ps.get q), if_pos (mem_allPeers p)]

/-! ### Phases and frequencies (00, Conventions) -/

/-- A wrapped difference lies in -16384..16383 and differs from the plain one by a multiple of 32768. -/
theorem wrap_spec (x : Int) : -16384 ≤ wrap x ∧ wrap x ≤ 16383 ∧ (32768 : Int) ∣ x - wrap x := by
  unfold wrap
  omega

/-- The rounded quotient is nearest, halves going away from zero. -/
theorem roundDiv_spec (a : Int) (b : Nat) (hb : 0 < b) :
    2 * (a - b * roundDiv a b) ≤ b ∧ -(b : Int) ≤ 2 * (a - b * roundDiv a b)
      ∧ (0 ≤ a → 2 * (a - b * roundDiv a b) < b) ∧ (a < 0 → -(b : Int) < 2 * (a - b * roundDiv a b)) := by
  have hb' : (0 : Int) < 2 * b := by omega
  unfold roundDiv
  split
  · next h =>
    have h1 := Int.mul_ediv_add_emod (2 * a + b) (2 * b)
    have h2 := Int.emod_nonneg (2 * a + b) (ne_of_gt hb')
    have h3 := Int.emod_lt_of_pos (2 * a + b) hb'
    have h4 : (b : Int) * ((2 * a + b) / (2 * b)) * 2 = 2 * b * ((2 * a + b) / (2 * b)) := by ring
    refine ⟨?_, ?_, ?_, ?_⟩ <;> intros <;> omega
  · next h =>
    have h1 := Int.mul_ediv_add_emod (-2 * a + b) (2 * b)
    have h2 := Int.emod_nonneg (-2 * a + b) (ne_of_gt hb')
    have h3 := Int.emod_lt_of_pos (-2 * a + b) hb'
    have h4 : (b : Int) * -((-2 * a + b) / (2 * b)) * 2 = -(2 * b * ((-2 * a + b) / (2 * b))) := by ring
    refine ⟨?_, ?_, ?_, ?_⟩ <;> intros <;> omega

/-- A clamped value lies within the limit, and is the value where that lies within. -/
theorem clamp_spec (lim : Nat) (x : Int) : (clamp lim x).natAbs ≤ lim ∧ (x.natAbs ≤ lim → clamp lim x = x) := by
  unfold clamp
  omega

/-- A counter that holds at its maximum stays within it. -/
theorem bump_spec (lim n : Nat) (h : n ≤ lim) : bump lim n = min lim (n + 1) := by
  unfold bump
  split <;> omega

/-- The residue after an addition of F stays within 65535, given that F and the residue do (R65). -/
theorem Floor.addFreq_residue (f : Floor) (hf : f.freq.natAbs ≤ 65535) (hr : f.residue.natAbs ≤ 65535) :
    f.addFreq.residue.natAbs ≤ 65535 := by
  unfold Floor.addFreq
  simp only
  split
  · simp only; omega
  · split <;> simp only <;> omega

/-- An addition of F writes the residue and the frame's length alone. -/
theorem Floor.addFreq_frame (f : Floor) : f.addFreq = { f with residue := f.addFreq.residue, kind := f.addFreq.kind } := by
  unfold Floor.addFreq
  simp only
  split
  · rfl
  · split <;> rfl

/-! ### The slip log (R156) -/

/-- The record sent is always the newest, under the next sequence. -/
theorem Log.add_last (g : Log) (kind : RecordKind) (line : LineNo) (epoch before after grade : Nat) :
    (g.add kind line epoch before after grade).records.getLast? = some ⟨g.next, kind, line, epoch, before, after, grade⟩
      ∧ (g.add kind line epoch before after grade).next = (g.next + 1) % 65536 := by
  unfold Log.add
  simp only
  split <;> simp

/-- A log below 64 records grows by one; a full one stays at its size. -/
theorem Log.add_length (g : Log) (kind : RecordKind) (line : LineNo) (epoch before after grade : Nat)
    (h : g.records.length ≤ 64) :
    (g.add kind line epoch before after grade).records.length = min 64 (g.records.length + 1) := by
  unfold Log.add
  simp only
  split <;> simp <;> omega

/-! ### Bits and octets -/

@[simp] theorem octetBits_length (o : Octet) : (octetBits o).length = 8 := rfl

/-- The bits of an octet make the octet again. -/
@[simp] theorem bitsOctet_octetBits (o : Octet) : bitsOctet (octetBits o) = o := by
  revert o
  decide +kernel

@[simp] theorem checkOctets_length (octets : List Octet) : (checkOctets octets).length = 2 := rfl

@[simp] theorem withCheck_length (octets : List Octet) : (withCheck octets).length = octets.length + 2 := by
  simp [withCheck]

/-- A bulletin sent with its check passes the receiver's comparison (R102). -/
theorem checkGood_withCheck (octets : List Octet) : checkGood (withCheck octets) = true := by
  simp [checkGood, withCheck]

/-- The service octet's fields come back from the octet (R34, R35). -/
theorem serviceOctet_fields (grade : Fin 8) (farEnd parity : Bool) (count : Fin 4) :
    serviceGrade (serviceOctet grade farEnd parity count) = BitVec.ofNat 3 grade
      ∧ serviceFarEnd (serviceOctet grade farEnd parity count) = farEnd
      ∧ serviceParity (serviceOctet grade farEnd parity count) = parity
      ∧ serviceCount (serviceOctet grade farEnd parity count) = BitVec.ofNat 2 count := by
  revert grade farEnd parity count
  decide +kernel

end Sys2Proof.Machine
end

