-- ==== Sys2Proof/Laws/Flags.lean ====
section
/-! SUPPORT. What the operations on conditions, latched flags, qualification and the selection do (03; 09, section 9.3). -/

namespace Sys2Proof.Machine

/-! ### Live conditions and latched flags -/

@[simp] theorem Line.live_setLive (x : Line) (c d : LineCond) (v : Bool) :
    (x.setLive c v).live d = if d = c then v else x.live d := by
  cases c <;> cases d <;> rfl

@[simp] theorem LineFlags.get_put (f : LineFlags) (c d : LineCond) (v : Bool) :
    (f.put c v).get d = if d = c then v else f.get d := by
  cases c <;> cases d <;> rfl

/-- Setting a live condition leaves what is no part of it. -/
theorem Line.setLive_frame (x : Line) (c : LineCond) (v : Bool) :
    (x.setLive c v).lrx = { x.lrx with lof := (x.setLive c v).live .lof }
      ∧ (x.setLive c v).store = { x.store with excess := (x.setLive c v).live .excess }
      ∧ (x.setLive c v).framer = x.framer ∧ (x.setLive c v).mon.latched = x.mon.latched
      ∧ (x.setLive c v).mon.otherwise = x.mon.otherwise ∧ (x.setLive c v).mon.wtr = x.mon.wtr
      ∧ (x.setLive c v).mon.candidate = x.mon.candidate := by
  cases c <;> exact ⟨rfl, rfl, rfl, rfl, rfl, rfl, rfl⟩

/-! ### Judging (R52 to R55, R59) -/

/-- After a line is judged it is otherwise qualified exactly as judged; the wait is loaded at a change alone. -/
theorem judge_spec (u : LineSetup) (q : Bool) (m : Monitor) :
    (judge u q m).otherwise = q ∧ (m.otherwise = q → judge u q m = m)
      ∧ (m.otherwise ≠ q → judge u q m = { m with
          otherwise := q, wtr := 16 * u.wtrCode, candidate := q && u.wtrCode == 0 }) := by
  unfold judge
  split
  · next h => exact ⟨h.symm, fun _ => rfl, fun g => absurd h.symm g⟩
  · next h => exact ⟨rfl, fun g => absurd g.symm h, fun _ => rfl⟩

/-- Judging reads the line's receiver, store and conditions, which it leaves. -/
theorem qualifies_judge (u : LineSetup) (q : Bool) (x : Line) :
    qualifies u { x with mon := judge u q x.mon } = qualifies u x := by
  unfold judge
  split <;> rfl

/-- All that re-judging a line can do. -/
theorem rejudge_spec (l : LineNo) (s : State) :
    (rejudge l s).line l = { s.line l with mon := judge (s.lineSetup l) (qualifies (s.lineSetup l) (s.line l)) (s.line l).mon }
      ∧ (∀ m, m ≠ l → (rejudge l s).line m = s.line m)
      ∧ ((rejudge l s).selected, (rejudge l s).lostNotice)
        = (if (s.line l).mon.otherwise = true ∧ qualifies (s.lineSetup l) (s.line l) = false ∧ s.selected = some l
          then (none, some l) else (s.selected, s.lostNotice))
      ∧ { rejudge l s with lines := s.lines, selected := s.selected, lostNotice := s.lostNotice } = s := by
  unfold rejudge
  simp only
  split
  · next h =>
    have h' : (s.line l).mon.otherwise = true ∧ qualifies (s.lineSetup l) (s.line l) = false ∧ s.selected = some l := by
      simpa [and_assoc] using h
    rw [if_pos h']
    exact ⟨State.onMon_line s l _, fun m g => State.setLine_line_ne s l m _ g, rfl, rfl⟩
  · next h =>
    have h' : ¬ ((s.line l).mon.otherwise = true ∧ qualifies (s.lineSetup l) (s.line l) = false ∧ s.selected = some l) := by
      simpa [and_assoc] using h
    rw [if_neg h']
    exact ⟨State.onMon_line s l _, fun m g => State.setLine_line_ne s l m _ g, rfl, rfl⟩

/-- Re-judging touches its line, the selection and its notices. -/
theorem rejudge_frame (l : LineNo) (s : State) : OnlyLineAndSelection l s (rejudge l s) := by
  unfold rejudge
  simp only
  split <;> exact ⟨fun m g => State.setLine_line_ne s l m _ g, rfl⟩

/-- A line re-judged is otherwise qualified exactly while the conditions of R52 stand. -/
theorem rejudge_sound (l : LineNo) (s : State) :
    ((rejudge l s).line l).mon.otherwise = qualifies ((rejudge l s).lineSetup l) ((rejudge l s).line l) := by
  have h := rejudge_spec l s
  have hu : (rejudge l s).lineSetup l = s.lineSetup l := by
    unfold rejudge
    simp only
    split <;> rfl
  rw [hu, h.1, qualifies_judge]
  exact (judge_spec _ _ _).1

/-! ### Assertion and release (R49, R50) -/

/-- Frames compose. -/
theorem OnlyLineAndSelection.trans {l : LineNo} {s t u : State} (h : OnlyLineAndSelection l s t) (g : OnlyLineAndSelection l t u) :
    OnlyLineAndSelection l s u := by
  refine ⟨fun m hm => (g.1 m hm).trans (h.1 m hm), ?_⟩
  have h2 := h.2
  have g2 := g.2
  rw [State.mk.injEq] at h2 g2 ⊢
  simp_all

theorem OnlyLineAndSelection.refl (l : LineNo) (s : State) : OnlyLineAndSelection l s s := ⟨fun _ _ => rfl, rfl⟩

theorem onlyLineAndSelection_setLine (s : State) (l : LineNo) (x : Line) : OnlyLineAndSelection l s (s.setLine l x) :=
  ⟨fun m h => State.setLine_line_ne s l m x h, rfl⟩

/-- Re-judging leaves every live condition and latched flag of the line. -/
theorem rejudge_live (l : LineNo) (s : State) (c : LineCond) :
    ((rejudge l s).line l).live c = (s.line l).live c
      ∧ ((rejudge l s).line l).mon.latched = (s.line l).mon.latched := by
  rw [(rejudge_spec l s).1]
  unfold judge
  split <;> cases c <;> exact ⟨rfl, rfl⟩

/-- After an assertion the condition is live; its flag is set where it was not live before; no other condition moves. -/
theorem raise_spec (c : LineCond) (l : LineNo) (s : State) :
    ((raise c l s).line l).live c = true
      ∧ ((s.line l).live c = false → ((raise c l s).line l).mon.latched.get c = true)
      ∧ ((s.line l).live c = true → raise c l s = s)
      ∧ (∀ d, d ≠ c → ((raise c l s).line l).live d = (s.line l).live d
        ∧ ((raise c l s).line l).mon.latched.get d = (s.line l).mon.latched.get d)
      ∧ OnlyLineAndSelection l s (raise c l s) := by
  unfold raise
  split
  · next h =>
    exact ⟨h, fun g => absurd (h.symm.trans g) (by decide), fun _ => rfl, fun _ _ => ⟨rfl, rfl⟩, .refl l s⟩
  · next h =>
    refine ⟨?_, fun _ => ?_, fun g => absurd g h, fun d hd => ⟨?_, ?_⟩,
      (onlyLineAndSelection_setLine s l _).trans (rejudge_frame l _)⟩
    · rw [(rejudge_live l _ c).1, State.setLine_line]
      cases c <;> rfl
    · rw [(rejudge_live l _ c).2, State.setLine_line]
      cases c <;> rfl
    · rw [(rejudge_live l _ d).1, State.setLine_line]
      cases c <;> cases d <;> first | rfl | exact absurd rfl hd
    · rw [(rejudge_live l _ d).2, State.setLine_line]
      cases c <;> cases d <;> first | rfl | exact absurd rfl hd

/-- After a release the condition is not live; no latched flag and no other condition moves. -/
theorem release_spec (c : LineCond) (l : LineNo) (s : State) :
    ((release c l s).line l).live c = false
      ∧ ((s.line l).live c = false → release c l s = s)
      ∧ (∀ d, d ≠ c → ((release c l s).line l).live d = (s.line l).live d)
      ∧ ((release c l s).line l).mon.latched = (s.line l).mon.latched
      ∧ OnlyLineAndSelection l s (release c l s) := by
  unfold release
  split
  · next h =>
    refine ⟨?_, fun g => absurd (h.symm.trans g) (by decide), fun d hd => ?_, ?_,
      (onlyLineAndSelection_setLine s l _).trans (rejudge_frame l _)⟩
    · rw [(rejudge_live l _ c).1, State.setLine_line, Line.live_setLive, if_pos rfl]
    · rw [(rejudge_live l _ d).1, State.setLine_line, Line.live_setLive, if_neg hd]
    · rw [(rejudge_live l _ c).2, State.setLine_line]
      exact ((s.line l).setLive_frame c false).2.2.2.1
  · next h =>
    exact ⟨by simpa using h, fun _ => rfl, fun _ _ => rfl, rfl, .refl l s⟩

/-- What the accepted grade's setting does: the grade is that one; a change on the line that stays selected leaves a notice. -/
theorem acceptGrade_spec (l : LineNo) (g : Nat) (s : State) :
    ((acceptGrade l g s).line l).lrx = { (s.line l).lrx with grade := g }
      ∧ ((s.line l).lrx.grade = g → acceptGrade l g s = s)
      ∧ OnlyLineAndSelection l s (acceptGrade l g s) := by
  unfold acceptGrade
  split
  · next h => exact ⟨by rw [← h], fun _ => rfl, .refl l s⟩
  · next h =>
    have f := (onlyLineAndSelection_setLine s l { s.line l with lrx := { (s.line l).lrx with grade := g } }).trans
      (rejudge_frame l (s.onLrx l fun r => { r with grade := g }))
    have hr : ((rejudge l (s.onLrx l fun r => { r with grade := g })).line l).lrx = { (s.line l).lrx with grade := g } := by
      rw [(rejudge_spec l _).1, State.onLrx_line]
    simp only
    split
    · exact ⟨hr, fun e => absurd e h, ⟨f.1, f.2⟩⟩
    · exact ⟨hr, fun e => absurd e h, f⟩

/-- What the accepted far-end flag's setting does. -/
theorem acceptFarEnd_spec (l : LineNo) (v : Bool) (s : State) :
    ((acceptFarEnd l v s).line l).lrx = { (s.line l).lrx with farEnd := v }
      ∧ ((s.line l).lrx.farEnd = v → acceptFarEnd l v s = s)
      ∧ OnlyLineAndSelection l s (acceptFarEnd l v s) := by
  unfold acceptFarEnd
  split
  · next h => exact ⟨by rw [← h], fun _ => rfl, .refl l s⟩
  · next h =>
    exact ⟨by rw [(rejudge_spec l _).1, State.onLrx_line], fun e => absurd e h,
      (onlyLineAndSelection_setLine s l _).trans (rejudge_frame l _)⟩

/-- A squelch marks a traffic frame in hand and changes nothing else. -/
theorem squelch_spec (l : LineNo) (s : State) :
    (squelch l s).line l = { s.line l with framer := { (s.line l).framer with
        squelched := (s.line l).framer.squelched || ((s.line l).framer.inHand.map InHand.traffic).getD false } }
      ∧ OnlyLine l s (squelch l s) := by
  refine ⟨?_, onlyLine_setLine s l _⟩
  unfold squelch
  rw [State.onFramer_line]
  cases hf : (s.line l).framer with
  | mk h c p r q i o a u =>
    cases h with
    | none => simp
    | some x => cases hx : x.traffic <;> simp [hx]

/-- PROFILE is latched at its assertion and nothing else moves. -/
theorem latchProfile_spec (before : Vector Peer 12) (s : State) :
    latchProfile before s
      = { s with flags := { s.flags with profile := s.flags.profile || (profileLive s.peers && !profileLive before) } } := by
  unfold latchProfile
  split
  · next h => simp [h]
  · next h =>
    have : (profileLive s.peers && !profileLive before) = false := by simpa using h
    simp [this]

end Sys2Proof.Machine
end

