-- ==== Sys2Proof/WellFormed.lean ====
section
/-! DEFINITION. Well-formed commands: what a sender may put into an operand. -/

namespace Sys2Proof

/-- How many items (bits, octets or bit times) a command's operand list holds. -/
def Instr.items : Instr → Nat
  | .powerOn => 0
  | .resetPinAssertion => 0
  | .resetPinRelease _ => 0
  | .handOverIntoStart octets => octets.length
  | .edgeWatchExpiry _ => 0
  | .firstClockEdge _ _ => 1
  | .searchTimerExpiry _ bits => bits.length
  | .candidateTaken _ bits => bits.length
  | .candidateServiceOctet _ bits => bits.length
  | .confirmationPoint _ bits => bits.length
  | .frameStartStamp _ => 0
  | .alignmentWordCheck _ _ => 1
  | .serviceOctetDecode _ _ => 1
  | .lineOctetWrite _ _ => 1
  | .floorFrameBoundary => 0
  | .readMark _ => 0
  | .receiverEpochClose _ => 0
  | .monitorEpochWork => 0
  | .epochMark => 0
  | .bulletinMark => 0
  | .selectionLostNotice _ => 0
  | .gradeChangeNotice _ _ => 0
  | .startDelimiter => 0
  | .invertedDelimiter => 0
  | .frameEnd samples => samples.length
  | .carrierIdle => 0
  | .launch => 0
  | .transmissionRelease => 0
  | .collision => 0
  | .backoffExpiry => 0
  | .jabberCutoff => 0
  | .jabberReexamination => 0
  | .serveTiming => 0
  | .serveIntro => 0
  | .serveHold => 0
  | .inquiryLog => 0
  | .inquiryLines => 0
  | .inquiryPeers => 0
  | .inquiryStation => 0
  | .inquiryUnknownSubject => 0
  | .reportSubmission => 0
  | .clear => 0
  | .restart => 0

/-- The line a command is for, if it is one line's. -/
def Instr.line? : Instr → Option LineNo
  | .powerOn => none
  | .resetPinAssertion => none
  | .resetPinRelease _ => none
  | .handOverIntoStart _ => none
  | .edgeWatchExpiry l => some l
  | .firstClockEdge l _ => some l
  | .searchTimerExpiry l _ => some l
  | .candidateTaken l _ => some l
  | .candidateServiceOctet l _ => some l
  | .confirmationPoint l _ => some l
  | .frameStartStamp l => some l
  | .alignmentWordCheck l _ => some l
  | .serviceOctetDecode l _ => some l
  | .lineOctetWrite l _ => some l
  | .floorFrameBoundary => none
  | .readMark l => some l
  | .receiverEpochClose l => some l
  | .monitorEpochWork => none
  | .epochMark => none
  | .bulletinMark => none
  | .selectionLostNotice l => some l
  | .gradeChangeNotice l _ => some l
  | .startDelimiter => none
  | .invertedDelimiter => none
  | .frameEnd _ => none
  | .carrierIdle => none
  | .launch => none
  | .transmissionRelease => none
  | .collision => none
  | .backoffExpiry => none
  | .jabberCutoff => none
  | .jabberReexamination => none
  | .serveTiming => none
  | .serveIntro => none
  | .serveHold => none
  | .inquiryLog => none
  | .inquiryLines => none
  | .inquiryPeers => none
  | .inquiryStation => none
  | .inquiryUnknownSubject => none
  | .reportSubmission => none
  | .clear => none
  | .restart => none

/-- The most items a command's list may hold: the image (R171), the hunt's timer (R8), the held bits (01, section 1.1), one
service octet (R4), and 64 octets with the two bit times that end a frame (R104). -/
def Instr.most : Instr → Nat
  | .handOverIntoStart _ => Config.imageLength
  | .searchTimerExpiry _ _ => Config.searchLimit
  | .candidateTaken _ _ => Config.searchLimit
  | .candidateServiceOctet _ _ => 8
  | .confirmationPoint _ _ => 600
  | .frameEnd _ => 514
  | .firstClockEdge _ _ => 1
  | .alignmentWordCheck _ _ => 1
  | .serviceOctetDecode _ _ => 1
  | .lineOctetWrite _ _ => 1
  | .powerOn => 0
  | .resetPinAssertion => 0
  | .resetPinRelease _ => 0
  | .edgeWatchExpiry _ => 0
  | .frameStartStamp _ => 0
  | .floorFrameBoundary => 0
  | .readMark _ => 0
  | .receiverEpochClose _ => 0
  | .monitorEpochWork => 0
  | .epochMark => 0
  | .bulletinMark => 0
  | .selectionLostNotice _ => 0
  | .gradeChangeNotice _ _ => 0
  | .startDelimiter => 0
  | .invertedDelimiter => 0
  | .carrierIdle => 0
  | .launch => 0
  | .transmissionRelease => 0
  | .collision => 0
  | .backoffExpiry => 0
  | .jabberCutoff => 0
  | .jabberReexamination => 0
  | .serveTiming => 0
  | .serveIntro => 0
  | .serveHold => 0
  | .inquiryLog => 0
  | .inquiryLines => 0
  | .inquiryPeers => 0
  | .inquiryStation => 0
  | .inquiryUnknownSubject => 0
  | .reportSubmission => 0
  | .clear => 0
  | .restart => 0

/-- The grade of a GRADE_CHANGE_NOTICE is 1..5: a change to 6 comes as a SELECTION_LOST_NOTICE (R87). -/
def Instr.gradeGood : Instr → Bool
  | .gradeChangeNotice _ grade => decide (1 ≤ grade) && decide (grade ≤ 5)
  | _ => true

/-- A well-formed command. -/
def Instr.wellFormed (c : Instr) : Bool := decide (c.items ≤ c.most) && c.gradeGood

end Sys2Proof
end

