-- ==== Sys2Proof/Laws/PerInstr.lean ====
section
/-! SUPPORT. A statement made for every command as syntax: a well-formed command carries at most 4608 items. -/

namespace Sys2Proof.Laws.OperandBound

/-- A well-formed command's operand list holds at most the 4608 items of the longest hunt. -/
def Statement (c : Instr) : Prop := c.wellFormed = true → c.items ≤ Config.searchLimit

/-- Each command's own bound is within 4608. -/
theorem of_most (c : Instr) (h : c.most ≤ Config.searchLimit) : Statement c := by
  intro hw
  simp only [Instr.wellFormed, Bool.and_eq_true, decide_eq_true_eq] at hw
  exact le_trans hw.1 h

theorem powerOn : Statement (.powerOn) := of_most _ (Nat.le_of_ble_eq_true rfl)

theorem resetPinAssertion : Statement (.resetPinAssertion) := of_most _ (Nat.le_of_ble_eq_true rfl)

theorem resetPinRelease (straps : BitVec 4) : Statement (.resetPinRelease straps) := of_most _ (Nat.le_of_ble_eq_true rfl)

theorem handOverIntoStart (octets : List Octet) : Statement (.handOverIntoStart octets) := of_most _ (Nat.le_of_ble_eq_true rfl)

theorem edgeWatchExpiry (line : LineNo) : Statement (.edgeWatchExpiry line) := of_most _ (Nat.le_of_ble_eq_true rfl)

theorem firstClockEdge (line : LineNo) (bit : Bool) : Statement (.firstClockEdge line bit) := of_most _ (Nat.le_of_ble_eq_true rfl)

theorem searchTimerExpiry (line : LineNo) (bits : List Bool) : Statement (.searchTimerExpiry line bits) := of_most _ (Nat.le_of_ble_eq_true rfl)

theorem candidateTaken (line : LineNo) (bits : List Bool) : Statement (.candidateTaken line bits) := of_most _ (Nat.le_of_ble_eq_true rfl)

theorem candidateServiceOctet (line : LineNo) (bits : List Bool) : Statement (.candidateServiceOctet line bits) := of_most _ (Nat.le_of_ble_eq_true rfl)

theorem confirmationPoint (line : LineNo) (bits : List Bool) : Statement (.confirmationPoint line bits) := of_most _ (Nat.le_of_ble_eq_true rfl)

theorem frameStartStamp (line : LineNo) : Statement (.frameStartStamp line) := of_most _ (Nat.le_of_ble_eq_true rfl)

theorem alignmentWordCheck (line : LineNo) (word : Octet) : Statement (.alignmentWordCheck line word) := of_most _ (Nat.le_of_ble_eq_true rfl)

theorem serviceOctetDecode (line : LineNo) (octet : Octet) : Statement (.serviceOctetDecode line octet) := of_most _ (Nat.le_of_ble_eq_true rfl)

theorem lineOctetWrite (line : LineNo) (octet : Octet) : Statement (.lineOctetWrite line octet) := of_most _ (Nat.le_of_ble_eq_true rfl)

theorem floorFrameBoundary : Statement (.floorFrameBoundary) := of_most _ (Nat.le_of_ble_eq_true rfl)

theorem readMark (line : LineNo) : Statement (.readMark line) := of_most _ (Nat.le_of_ble_eq_true rfl)

theorem receiverEpochClose (line : LineNo) : Statement (.receiverEpochClose line) := of_most _ (Nat.le_of_ble_eq_true rfl)

theorem monitorEpochWork : Statement (.monitorEpochWork) := of_most _ (Nat.le_of_ble_eq_true rfl)

theorem epochMark : Statement (.epochMark) := of_most _ (Nat.le_of_ble_eq_true rfl)

theorem bulletinMark : Statement (.bulletinMark) := of_most _ (Nat.le_of_ble_eq_true rfl)

theorem selectionLostNotice (line : LineNo) : Statement (.selectionLostNotice line) := of_most _ (Nat.le_of_ble_eq_true rfl)

theorem gradeChangeNotice (line : LineNo) (grade : Nat) : Statement (.gradeChangeNotice line grade) := of_most _ (Nat.le_of_ble_eq_true rfl)

theorem startDelimiter : Statement (.startDelimiter) := of_most _ (Nat.le_of_ble_eq_true rfl)

theorem invertedDelimiter : Statement (.invertedDelimiter) := of_most _ (Nat.le_of_ble_eq_true rfl)

theorem frameEnd (samples : List (Bool × Bool)) : Statement (.frameEnd samples) := of_most _ (Nat.le_of_ble_eq_true rfl)

theorem carrierIdle : Statement (.carrierIdle) := of_most _ (Nat.le_of_ble_eq_true rfl)

theorem launch : Statement (.launch) := of_most _ (Nat.le_of_ble_eq_true rfl)

theorem transmissionRelease : Statement (.transmissionRelease) := of_most _ (Nat.le_of_ble_eq_true rfl)

theorem collision : Statement (.collision) := of_most _ (Nat.le_of_ble_eq_true rfl)

theorem backoffExpiry : Statement (.backoffExpiry) := of_most _ (Nat.le_of_ble_eq_true rfl)

theorem jabberCutoff : Statement (.jabberCutoff) := of_most _ (Nat.le_of_ble_eq_true rfl)

theorem jabberReexamination : Statement (.jabberReexamination) := of_most _ (Nat.le_of_ble_eq_true rfl)

theorem serveTiming : Statement (.serveTiming) := of_most _ (Nat.le_of_ble_eq_true rfl)

theorem serveIntro : Statement (.serveIntro) := of_most _ (Nat.le_of_ble_eq_true rfl)

theorem serveHold : Statement (.serveHold) := of_most _ (Nat.le_of_ble_eq_true rfl)

theorem inquiryLog : Statement (.inquiryLog) := of_most _ (Nat.le_of_ble_eq_true rfl)

theorem inquiryLines : Statement (.inquiryLines) := of_most _ (Nat.le_of_ble_eq_true rfl)

theorem inquiryPeers : Statement (.inquiryPeers) := of_most _ (Nat.le_of_ble_eq_true rfl)

theorem inquiryStation : Statement (.inquiryStation) := of_most _ (Nat.le_of_ble_eq_true rfl)

theorem inquiryUnknownSubject : Statement (.inquiryUnknownSubject) := of_most _ (Nat.le_of_ble_eq_true rfl)

theorem reportSubmission : Statement (.reportSubmission) := of_most _ (Nat.le_of_ble_eq_true rfl)

theorem clear : Statement (.clear) := of_most _ (Nat.le_of_ble_eq_true rfl)

theorem restart : Statement (.restart) := of_most _ (Nat.le_of_ble_eq_true rfl)

end Sys2Proof.Laws.OperandBound
end

