-- ==== Sys2Proof/Tests/Slice0.lean ====
section
/-! SUPPORT. Tests of single steps. Expected results are those of the spec's worked examples and tables, named at each test, or
worked out by hand from the rule named. -/

namespace Sys2Proof.Tests

open Sys2Proof Sys2Proof.Machine

set_option Elab.async false

/-! ### Helpers -/

/-- The state after a command; unchanged where it does not complete. -/
def after (c : Instr) (s : State) : State :=
  match exec c s with
  | .next t => t
  | .fault _ => s
  | .refused _ => s

/-- Station 4 in TRACK with the default configuration. -/
def station : State :=
  { inReset := false, loader := { phase := .done, strap := 4#4 }, floor := { state := .track } }

/-- A station of another number. -/
def withNumber (s : State) (number : BitVec 4) : State := { s with loader := { s.loader with strap := number } }

/-- Line 5 ALIGNED at grade 2, otherwise qualified and a candidate; it may anchor. -/
def goodLine : Line :=
  { lrx := { align := .aligned, grade := 2, farEnd := false, alignedThroughout := true }
    mon := { otherwise := true, candidate := true } }

/-- The configuration under which every line may anchor. -/
def anchorSetup : Setup := { lines := Vector.replicate 16 { mayAnchor := true } }

/-- Station 4 with line 5 good and selected. -/
def anchored : State :=
  { station with
    setup := anchorSetup, lines := station.lines.set 5 goodLine, selected := some 5
    steer := { role := some .anchored, leading := some 2, announced := 2, anchor := some 5, offset := some 1000 } }

/-- The bits of octets, in the order sent. -/
def bitsOf (xs : List Octet) : List Bool := xs.flatMap octetBits

/-- A bulletin at the head of the receive queue. -/
def hearing (s : State) (x : List Octet) (stamp generation : Nat) : State :=
  { s with queue := [⟨withCheck x, stamp, generation⟩] }

/-! ### Well-formedness -/

theorem test_wellFormed_refuses_long_list :
    (Instr.frameEnd (List.replicate 516 (true, false))).wellFormed = false := by decide +kernel

theorem test_wellFormed_refuses_long_image : (Instr.handOverIntoStart (List.replicate 119 0#8)).wellFormed = false := by
  decide +kernel

theorem test_wellFormed_refuses_grade : (Instr.gradeChangeNotice 3 6).wellFormed = false := by decide +kernel

theorem test_wellFormed_takes_grade : (Instr.gradeChangeNotice 3 5).wellFormed = true := by decide +kernel

/-! ### Start-up (10) -/

/-- R79. -/
theorem test_powerOn : (after .powerOn station).floor = {} ∧ (after .powerOn station).steer.holdAge = 65535 := by decide +kernel

/-- R170, R30: continuous ones, the bus driver off. -/
theorem test_resetPinAssertion :
    (after .resetPinAssertion anchored).output 5 = true ∧ (after .resetPinAssertion anchored).busDriver = none
      ∧ (after .resetPinAssertion anchored).selected = none := by decide +kernel

/-- R175: 12..15 is standalone mode. -/
theorem test_resetPinRelease :
    (after (.resetPinRelease 11#4) State.reset).standalone = false ∧ (after (.resetPinRelease 12#4) State.reset).standalone = true
      ∧ (after (.resetPinRelease 11#4) State.reset).number = 11 := by decide +kernel

/-- The image of chapter 10's first worked example, other octets 0 but the enable map. -/
def exampleImage : List Octet :=
  ((((((List.replicate 118 0#8).set 0 0x56#8).set 1 0x52#8).set 3 0xFF#8).set 13 0x0A#8).set 17 0xC0#8 |>.set 21 200#8
    |>.set 37 0x80#8).set 85 0x20#8

/-- The held-in-reset part released with the straps at 5. -/
def reading : State := after (.resetPinRelease 5#4) State.reset

/-- Chapter 10, Worked example: two images, the first. -/
theorem test_handOver_example :
    let t := after (.handOverIntoStart exampleImage) reading
    t.setup.slewCode = 10 ∧ t.setup.anchorGain = 1 ∧ t.setup.intervalCode = 2 ∧ (t.lineSetup 3).slipLow = 135
      ∧ (t.lineSetup 3).slipHigh = 153 ∧ (t.lineSetup 3).maskExcess = true ∧ (t.lineSetup 3).mayAnchor = false
      ∧ (t.lineSetup 3).wtrCode = 2 ∧ t.flags.config = false ∧ t.floor.state = .start
      ∧ (t.line 3).lrx.align = .search ∧ (t.line 8).lrx.align = .off := by decide +kernel

/-- The second image: FFH throughout. -/
theorem test_handOver_unprogrammed :
    let t := after (.handOverIntoStart (List.replicate 118 0xFF#8)) reading
    t.flags.config = true ∧ t.nonurgent = true ∧ t.setup.profile = 0#8 ∧ ∀ l, (t.lineSetup l).mayAnchor = false := by decide +kernel

/-- R18: a clock that stands high at the hand-over gives no edge before it rises again. -/
theorem test_handOver_clockStandsHigh :
    let t := after (.handOverIntoStart exampleImage) { reading with pins := { lineClock := 4#16 } }
    (t.line 2).lrx.clockSeen = true ∧ ((tick t).line 2).lrx.edgeWatch = 1 ∧ (tick t).due = [] := by decide +kernel

/-! ### Line receivers (01) -/

/-- R2, R8, R59: LOF is asserted and latched, the selection is dropped. -/
theorem test_edgeWatchExpiry :
    let t := after (.edgeWatchExpiry 5) anchored
    (t.line 5).lrx.align = .dark ∧ (t.line 5).lrx.lof = true ∧ (t.line 5).mon.latched.lof = true
      ∧ (t.line 5).lrx.grade = 6 ∧ t.selected = none ∧ t.lostNotice = some 5 := by decide +kernel

/-- R3: LOF stays. -/
theorem test_firstClockEdge :
    let t := after (.firstClockEdge 5 true) (after (.edgeWatchExpiry 5) anchored)
    (t.line 5).lrx.align = .search ∧ (t.line 5).lrx.lof = true ∧ (t.line 5).lrx.searchBits = 1 := by decide +kernel

/-- R8: 4608 bits without an entry to ALIGNED. -/
theorem test_searchTimerExpiry :
    let s := station.onLrx 2 fun r => { r with searchBits := 4607 }
    (after (.searchTimerExpiry 2 [true]) s |>.line 2).lrx.lof = true
      ∧ (after (.candidateTaken 2 [true]) station |>.line 2).lrx.lof = false := by decide +kernel

/-- R4: 6BH is sent 1, 1, 0, 1, 0, 1, 1, 0. -/
theorem test_candidateTaken :
    (after (.candidateTaken 2 [false, true, true, false, true, false, true, true, false]) station |>.line 2).lrx.held
      = [true, true, false, true, false, true, true, false] := by decide +kernel

/-- R4: service octet 04H carries frame count 2. -/
theorem test_candidateServiceOctet :
    let s := after (.candidateTaken 2 (octetBits 0x6B#8)) station
    let t := after (.candidateServiceOctet 2 (octetBits 0x04#8)) s
    (t.line 2).lrx.align = .check ∧ (t.line 2).lrx.candidate = some ⟨2#2, 0⟩ := by decide +kernel

/-- Bits 130..424 of the hunt of chapter 1's first worked example: a false candidate at 130, the true one at 203. -/
def huntBits : List Bool :=
  octetBits 0x6B#8 ++ octetBits 0x04#8 ++ List.replicate 57 false ++ octetBits 0x6B#8 ++ octetBits 0x02#8
    ++ List.replicate 199 false ++ (octetBits 0x5A#8).take 7

/-- The same worked example, bit 425. -/
theorem test_confirmationPoint_fails :
    let s := station.onLrx 2 fun r => { r with align := .check, held := huntBits, candidate := some ⟨2#2, 0⟩ }
    let t := after (.confirmationPoint 2 [false]) s
    (t.line 2).lrx.align = .check ∧ (t.line 2).lrx.failed = 1 ∧ (t.line 2).lrx.candidate = some ⟨1#2, 0⟩
      ∧ (t.line 2).lrx.held.length = 223 ∧ (t.line 2).lrx.lof = false := by decide +kernel

/-- The bits held before the last of the second confirmation, counts 1, 2, 3. -/
def confirmedBits : List Bool :=
  bitsOf (0x6B#8 :: 0x02#8 :: List.replicate 34 0#8) ++ bitsOf (0x6B#8 :: 0x04#8 :: List.replicate 34 0#8)
    ++ bitsOf [0x6B#8] ++ (octetBits 0x06#8).take 7

/-- The same worked example, bit 794: with the cell boundary of chapter 2's recentre example, 200 to 216. -/
theorem test_confirmationPoint_aligns :
    let s := (station.onLrx 2 fun r => { r with align := .check, held := confirmedBits, candidate := some ⟨2#2, 1⟩ }).onStore 2
      fun x => { x with w := 200 }
    let t := after (.confirmationPoint 2 [false]) s
    (t.line 2).lrx.align = .aligned ∧ (t.line 2).store.w = 216 ∧ (t.line 2).store.request = some .aligned
      ∧ (t.line 2).lrx.failed = 0 := by decide +kernel

/-- R15, chapter 1's third worked example: s0 = 32750, the 64th stamp 13 is 31 on. -/
theorem test_frameStartStamp :
    let s := ({ station with floor := { station.floor with time := 13 } } : State).onLrx 2
      fun r => { r with align := .aligned, acc := ⟨some 32750, 961, 63⟩ }
    (after (.frameStartStamp 2) s |>.line 2).lrx.acc = ⟨some 32750, 992, 64⟩ := by decide +kernel

/-- Chapter 1, Worked example: grade acceptance and word loss, frame 11. -/
theorem test_alignmentWordCheck :
    let s := station.onLrx 2 fun r => { r with align := .aligned, grade := 2, wordWindow := [true, false, true, false] }
    let t := after (.alignmentWordCheck 2 0x6A#8) s
    (t.line 2).lrx.align = .search ∧ (t.line 2).lrx.grade = 6 ∧ (t.line 2).lrx.wordWindow = []
      ∧ (after (.alignmentWordCheck 2 0x6B#8) s |>.line 2).lrx.wordWindow = [false, true, false, true] := by decide +kernel

/-- The same example, frames 5 and 6: code 2 for the fourth time, then code 3. -/
theorem test_serviceOctetDecode :
    let s := station.onLrx 2 fun r => { r with align := .aligned, gradeRun := ⟨some 2#3, 3⟩ }
    let t := after (.serviceOctetDecode 2 0x40#8) s
    (t.line 2).lrx.grade = 2 ∧ (t.line 2).lrx.gradeRun = ⟨some 2#3, 4⟩
      ∧ (after (.serviceOctetDecode 2 0x60#8) t |>.line 2).lrx.gradeRun = ⟨some 3#3, 1⟩
      ∧ (after (.serviceOctetDecode 2 0x60#8) t |>.line 2).lrx.grade = 2 := by decide +kernel

/-- R20, R21: W passes from 287 to 0, and octet 0 of cell 0 turns it FRESH. -/
theorem test_lineOctetWrite :
    let s := (station.onLrx 2 fun r => { r with align := .aligned }).onStore 2 fun x => { x with w := 287 }
    let t := after (.lineOctetWrite 2 0x12#8) s
    (t.line 2).store.w = 0 ∧ (t.line 2).store.cells.get 287 = 0x12#8 ∧ (t.line 2).store.fresh.get 0 = false
      ∧ ((after (.lineOctetWrite 2 0x6B#8) t).line 2).store.fresh.get 0 = true := by decide +kernel

/-- Chapter 1, Worked example: phase and drift across the floor frame wrap, epoch B. -/
theorem test_receiverEpochClose :
    let s := station.onLrx 2 fun r =>
      { r with align := .aligned, alignedThroughout := true, acc := ⟨some 14, 992, 64⟩, prevPhase := some 32766 }
    let t := after (.receiverEpochClose 2) s
    (t.line 2).mon.handedPhase = some 30 ∧ (t.line 2).mon.handedDrift = some 32 := by decide +kernel

/-! ### Stores and framers (02) -/

/-- Line 4 with its fill as chapter 2's first worked example has it. -/
def slipping (w : Fin 288) (n : Fin 8) (pending : Bool) : State :=
  (station.onLrx 4 fun r => { r with align := .aligned, grade := 2 }).onStore 4
    fun x => { x with w := w, n := n, repeatPending := pending, fresh := Vector.replicate 8 true }

/-- Chapter 2, Worked example: a REPEAT through fill jitter, mark 5. -/
theorem test_readMark_repeat :
    let t := after (.readMark 4) (slipping 196 5 true)
    (t.line 4).store.n = 5 ∧ (t.line 4).store.fill = 52 ∧ (t.line 4).framer.inHand = some ⟨4, true⟩
      ∧ (t.line 4).store.repeatPending = false ∧ t.log.records = [⟨0, .slipRepeat, 4, 0, 16, 52, 2⟩] := by decide +kernel

/-- Chapter 2, Worked example: recentre on alignment, read mark a. -/
theorem test_readMark_recentre :
    let s := (station.onLrx 9 fun r => { r with align := .aligned }).onStore 9
      fun x => { x with w := 216, n := 4, request := some .aligned }
    let t := after (.readMark 9) s
    (t.line 9).store.fill = 144 ∧ (t.line 9).framer.inHand = some ⟨2, false⟩ ∧ (t.line 9).framer.reason = .line
      ∧ t.log.records = [⟨0, .realignAligned, 9, 0, 72, 144, 6⟩] := by decide +kernel

/-- R34, R35: grade 2, far-end flag, parity bit, count 3, in bits 7..5, 4, 3, 2..1. -/
theorem test_serviceOctet : serviceOctet 2 true true 3 = 0x5E#8 := by decide +kernel

/-! ### Monitors and selector (03) -/

/-- Lines 0, 3 and 5 of chapter 3's first worked example. -/
def drifting (d0 d3 d5 p5 : Int) : State :=
  let give (l : LineNo) (d : Int) (s : State) := (s.onLrx l fun r => { r with align := .aligned }).onMon l
    fun m => { m with handedDrift := some d }
  (give 5 d5 (give 3 d3 (give 0 d0 station))).onMon 5 fun m => { m with prevDrift := some p5 }

/-- Chapter 3, Worked example: wander and divergence on three lines, epoch 3 and, before it, epoch 2. -/
theorem test_monitorEpochWork :
    (let t := after .monitorEpochWork (drifting 1 (-1) 58 30);
      (t.line 5).mon.wander = true ∧ (t.line 5).mon.diverge = true ∧ (t.line 3).mon.diverge = false)
      ∧ (let t := after .monitorEpochWork (drifting 3 (-2) 30 7);
        (t.line 5).mon.wander = false ∧ (t.line 5).mon.diverge = true ∧ (t.line 5).mon.latched.diverge = true) := by
  decide +kernel

/-- Chapter 3, Worked example: selection through a failure and a regrade, marks A, B and E. -/
theorem test_monitorEpochWork_selects :
    let give (l : LineNo) (g : Nat) (s : State) := s.setLine l
      { goodLine with lrx := { goodLine.lrx with grade := g } }
    let setup : Setup := { lines := (((Vector.replicate 16 ({ mayAnchor := true } : LineSetup)).set 2
      { mayAnchor := true, priority := 5 }).set 7 { mayAnchor := true, priority := 1 }).set 11 { mayAnchor := true, priority := 1 } }
    let s : State := { station with setup := setup }
    (after .monitorEpochWork (give 2 2 (give 11 3 s))).selected = some 2
      ∧ (after .monitorEpochWork { give 2 2 (give 7 2 (give 11 3 s)) with selected := some 2 }).selected = some 2
      ∧ (after .monitorEpochWork (give 7 2 (give 11 3 s))).selected = some 7
      ∧ (after .monitorEpochWork { give 7 3 (give 11 1 s) with selected := some 7 }).selected = some 11 := by
  decide +kernel

/-! ### The floor clock (04) and steering (05) -/

/-- Chapter 4, Worked example: the residue at two frequency words: boundary 3 of the first, 2 of the second. -/
theorem test_floorFrameBoundary :
    let at_ (f r : Int) : State := { station with floor := { station.floor with freq := f, residue := r } }
    (after .floorFrameBoundary (at_ 1757 65514)).floor.residue = 1735
      ∧ (after .floorFrameBoundary (at_ 1757 65514)).floor.kind = .short
      ∧ (after .floorFrameBoundary (at_ (-25600) (-55600))).floor.residue = -15664
      ∧ (after .floorFrameBoundary (at_ (-25600) (-55600))).floor.kind = .long := by decide +kernel

/-- A peer heard `count` times in the epoch. -/
def heard (role : Role) (grade : Nat) (sum : Int) (count : Nat) : Peer :=
  { state := .active, announced := some ⟨role, grade, .track⟩, sum := sum, count := count }

/-- Chapter 5, Worked example: one computation at station 3. -/
theorem test_epochMark_computes :
    let s : State := { anchored with
      floor := { anchored.floor with integral := 96000, freq := 1760 }
      peers := ((anchored.peers.set 1 (heard .following 2 36 4)).set 7 (heard .anchored 2 481 4)).set 9 (heard .holding 4 (-200) 4) }
    let t := after .epochMark (s.onMon 5 fun m => { m with handedPhase := some 960 })
    t.floor.integral = 96064 ∧ t.floor.freq = 1757 ∧ t.steer.role = some .anchored ∧ t.steer.recordMean = some 120
      ∧ t.floor.state = .track := by decide +kernel

/-- Chapter 4, Worked example: a station joins its floor, M4. -/
theorem test_epochMark_jumps :
    let s : State := { station with
      floor := { state := .start, listen := 3 }
      peers := station.peers.set 2 (heard .anchored 2 (-12000) 4) }
    let t := after .epochMark (s.onLrx 0 fun r => { r with align := .aligned })
    t.floor.shift = some (-3000) ∧ t.floor.state = .acquire ∧ t.floor.generation = 1 ∧ t.floor.lock = 1
      ∧ t.steer.role = some .following ∧ t.floor.freq = 0 ∧ (t.line 0).store.request = some .jump
      ∧ (tickFloor t).floor.time = 3001 := by decide +kernel

/-- Chapter 4, Worked example: a ring, a holdover; and chapter 5, Worked example: anchor lost. -/
theorem test_selectionLostNotice :
    let ring : List Int := 1504 :: List.replicate 15 1500
    let s : State := { anchored with
      floor := { anchored.floor with integral := 96320, freq := 1537 }
      steer := { anchored.steer with ring := ring, historyValid := true, holdAge := 0 } }
    let t := after (.selectionLostNotice 5) s
    t.steer.role = some .holding ∧ t.steer.announced = 4 ∧ t.steer.ownHold = 8 ∧ t.floor.integral = 96000 ∧ t.floor.freq = 1500
      ∧ t.bus.hold = some [0x34#8, 0xFF#8, 8#8] ∧ ringMean (List.replicate 8 (-412) ++ List.replicate 8 (-413)) = -412 := by
  decide +kernel

/-- R87: an ANCHORED unit alone takes the grade. -/
theorem test_gradeChangeNotice :
    (after (.gradeChangeNotice 5 3) anchored).steer.announced = 3 ∧ (after (.gradeChangeNotice 5 3) station).steer.announced = 6 := by
  decide +kernel

/-- Chapter 5, Worked example: role decisions, cases a to h. -/
theorem test_decideRole :
    decideRole (some 2) (some 2) 4 = (.anchored, 2) ∧ decideRole (some 3) (some 2) 4 = (.following, 2)
      ∧ decideRole none (some 4) 4 = (.holding, 4) ∧ decideRole none (some 4) 5 = (.following, 4)
      ∧ decideRole (some 5) none 4 = (.anchored, 5) ∧ decideRole (some 5) (some 4) 4 = (.holding, 4)
      ∧ decideRole none none 5 = (.free, 5) ∧ decideRole none (some 5) 5 = (.free, 5) := by decide +kernel

/-- Chapter 5, Worked example: a tie at each rounding. -/
theorem test_rounding :
    roundDiv (-14) 4 = -4 ∧ roundDiv (-20) 4 = -5 ∧ roundDiv (-144) 32 = -5 ∧ (-12760 : Int) / 64 = -200
      ∧ roundDiv 481 4 = 120 ∧ wrap (30 - 32766) = 32 := by decide +kernel

/-- R129, R130, R133: a TIMING in TRACK with sequence 117, and an INTRO in START. -/
theorem test_bulletinMark :
    (after .bulletinMark { anchored with floor := { anchored.floor with sequence := 117 } }).bus.timing
        = some [0x14#8, 0xFF#8, 0#8, 0#8, 0x16#8, 0#8, 0#8, 117#8, 0#8]
      ∧ (after .bulletinMark { station with floor := { state := .start } }).bus.intro
        = some [0x24#8, 0xFF#8, 0#8, 1#8, 0#8] := by decide +kernel

/-! ### The bus (06) -/

/-- A state with a REPORT in flight. -/
def sendingReport (phase : Phase) (attempts : Nat) : State :=
  { station with bus := { station.bus with
      reports := [[0x54#8, 13#8, 9#8, 0#8, 0#8]]
      flight := some { slot := .report, phase := phase, attempts := attempts }, quiet := 28, busy := false } }

/-- R102: the check octets of "123456789" under CRC-16/MCRF4XX, the same polynomial, preset and bit order (its catalogue value
6F91H goes out low octet first). -/
theorem test_checkOctets :
    checkOctets [0x31#8, 0x32#8, 0x33#8, 0x34#8, 0x35#8, 0x36#8, 0x37#8, 0x38#8, 0x39#8] = [0x91#8, 0x6F#8] := by decide +kernel

/-- R101: 11 octets with the check last 114 bit times. -/
theorem test_wireLength : (wireSamples (withCheck (List.replicate 9 0#8))).length = 114 := by decide +kernel

theorem test_startDelimiter :
    (after .startDelimiter (sendingReport .sending 1)).bus.frame.map RxFrame.ownEcho = some true
      ∧ (after .startDelimiter station).bus.frame.map RxFrame.ownEcho = some false := by decide +kernel

/-- R105: the fourth turns the polarity, and its own frame is ignored. -/
theorem test_invertedDelimiter :
    let s : State := { station with bus := { station.bus with invertedRun := 3 } }
    (after .invertedDelimiter s).bus.inverted = true ∧ (after .invertedDelimiter s).bus.invertedRun = 0
      ∧ (after .invertedDelimiter s).bus.ignoring = true ∧ (after .invertedDelimiter s).bus.frame = none := by decide +kernel

/-- R121, R122: a HOLD from station 7 is queued; the same with one bit of its check wrong is counted by CRC. -/
theorem test_frameEnd :
    let s := after .startDelimiter station
    let x := withCheck [0x37#8, 0xFF#8, 8#8]
    (after (.frameEnd (bodySamples x)) s).queue.map RxEntry.octets = [x]
      ∧ (after (.frameEnd (bodySamples (x.set 2 9#8))) s).counters.crc = 1
      ∧ (after (.frameEnd (bodySamples (x.set 2 9#8))) s).queue = [] := by decide +kernel

/-- R104: a frame the carrier leaves is broken. -/
theorem test_carrierIdle :
    (after .carrierIdle (after .startDelimiter station)).counters.crc = 1
      ∧ (after .carrierIdle (after .startDelimiter station)).bus.busy = false := by decide +kernel

/-- R109: the attempt is counted and the preamble begins high. -/
theorem test_launch :
    (after .launch (sendingReport .gap 2)).bus.flight = some { slot := .report, phase := .sending, attempts := 3 }
      ∧ (after .launch (sendingReport .gap 2)).busDriver = some true := by decide +kernel

/-- R113: the fourth miss in a row asserts ECHO. -/
theorem test_transmissionRelease :
    let s := sendingReport .sending 1
    let t := after .transmissionRelease { s with bus := { s.bus with echoMiss := 3 } }
    t.bus.echo = true ∧ t.flags.echo = true ∧ t.urgent = true ∧ t.bus.reports = [] ∧ t.bus.flight = none := by decide +kernel

/-- Chapter 6, Worked example: four TIMINGs at one bulletin mark: station 9 after attempt 1, station 10 after attempts 1 and 2. -/
theorem test_collision :
    (after .collision (withNumber (sendingReport .sending 1) 9#4)).bus.flight.map Flight.backoff = some 704
      ∧ (after .collision (withNumber (sendingReport .sending 1) 10#4)).bus.flight.map Flight.backoff = some 768
      ∧ (after .collision (withNumber (sendingReport .sending 2) 10#4)).bus.flight.map Flight.backoff = some 64
      ∧ (after .collision (sendingReport .sending 16)).flags.contend = true
      ∧ (after .collision (sendingReport .sending 16)).bus.flight = none := by decide +kernel

theorem test_backoffExpiry :
    (after .backoffExpiry (sendingReport .backoff 2)).bus.flight = some { slot := .report, phase := .gap, attempts := 2 } := by
  decide +kernel

/-- R114: the drop is not counted. -/
theorem test_jabberCutoff :
    let t := after .jabberCutoff (sendingReport .sending 1)
    t.bus.jabber = true ∧ t.bus.enabled = false ∧ t.bus.flight = none ∧ t.bus.reports = [] ∧ t.bus.contention = 0
      ∧ t.flags.jabber = true ∧ t.flags.contend = false := by decide +kernel

/-- R115. -/
theorem test_jabberReexamination :
    let s : State := { station with bus := { station.bus with jabber := true, enabled := false, driveRun := 1025 } }
    (after .jabberReexamination s).bus.jabber = false ∧ (after .jabberReexamination s).bus.enabled = true
      ∧ (after .jabberReexamination { s with pins := { s.pins with driveSense := true } }).bus.jabber = true := by decide +kernel

/-! ### The bulletin unit and the peer table (07, 08, 09) -/

/-- Chapter 7's example of a TIMING served: sequence 42, launch stamp 12345, arrival stamp 12401, delay comp 8. -/
theorem test_serveTiming :
    let s : State := { station with
      setup := { delayComp := 8 }, floor := { station.floor with generation := 1 }
      peers := station.peers.set 7
        { state := .active, lastSeq := some 40, missed := 3, sum := 95, count := 2, generation := 1 } }
    let x : List Octet := [0x17#8, 0xFF#8, 0x39#8, 0x30#8, 0x16#8, 0x08#8, 0#8, 42#8, 0#8]
    let e := (after .serveTiming (hearing s x 12401 1)).peer 7
    e.state = .active ∧ e.announced = some ⟨.anchored, 2, .track⟩ ∧ e.lastSeq = some 42 ∧ e.missed = 4 ∧ e.sum = 143
      ∧ e.count = 3 ∧ e.nonurgent = true ∧ e.urgent = false := by decide +kernel

/-- R143, chapter 8's life of one entry: TIMINGs 0 and 1. -/
theorem test_serveTiming_joins :
    let x (n : Octet) : List Octet := [0x19#8, 0xFF#8, 0#8, 0#8, 0x16#8, 0#8, 0#8, n, 0#8]
    let s : State := { station with peers := station.peers.set 9 { state := .joining, sinceTiming := 4, sinceAny := 1 } }
    let t := after .serveTiming (hearing s (x 0#8) 5 0)
    (t.peer 9).state = .joining ∧ (t.peer 9).firstMark = true
      ∧ ((after .serveTiming (hearing t (x 1#8) 6 0)).peer 9).state = .active := by decide +kernel

/-- Chapter 7's example of an INTRO served from station 11. -/
theorem test_serveIntro :
    let t := after .serveIntro (hearing station [0x2B#8, 0xFF#8, 0#8, 1#8, 0#8] 5 0)
    (t.peer 11).state = .joining ∧ t.bus.intro = some [0x24#8, 0xFF#8, 0#8, 1#8, 1#8] := by decide +kernel

/-- Chapter 7's example of three HOLDs served from station 7. -/
theorem test_serveHold :
    let s : State := { station with peers := station.peers.set 7 { state := .active, hold := 3 } }
    let serve (n : Octet) (s : State) := after .serveHold (hearing s [0x37#8, 0xFF#8, n] 5 0)
    ((serve 8#8 s).peer 7).hold = 8 ∧ ((serve 5#8 (serve 8#8 s)).peer 7).hold = 8
      ∧ ((serve 0#8 (serve 8#8 s)).peer 7).hold = 0 := by decide +kernel

/-- An INQUIRY from controller 13 on a subject. -/
def asked (subject : Octet) (s : State) : State := hearing s [0x4D#8, 4#8, subject, 20#8, 0#8] 5 0

theorem test_inquiryLog :
    (after .inquiryLog (asked 1#8 station)).service.map Build.parameter = some 20
      ∧ (after .inquiryLog (asked 2#8 station)).service.isNone = true := by decide +kernel

theorem test_inquiryLines : (after .inquiryLines (asked 2#8 station)).service.map Build.subject = some 2#8 := by decide +kernel

theorem test_inquiryPeers : (after .inquiryPeers (asked 3#8 station)).service.map Build.inquirer = some 13#4 := by decide +kernel

/-- R158: with four REPORTs held the INQUIRY is dropped. -/
theorem test_inquiryStation :
    let s : State := { station with bus := { station.bus with reports := [[], [], [], []] } }
    (after .inquiryStation (asked 4#8 s)).inquiryDropped = true ∧ (after .inquiryStation (asked 4#8 s)).queue = []
      ∧ (after .inquiryStation (asked 4#8 s)).service.isNone = true := by decide +kernel

/-- R135: subject 9. -/
theorem test_inquiryUnknownSubject :
    (after .inquiryUnknownSubject (asked 9#8 station)).service.isSome = true
      ∧ (after .reportSubmission { station with service := some { subject := 9#8, parameter := 0, inquirer := 13#4 } }).bus.reports
        = [[0x54#8, 13#8, 9#8, 0#8, 0#8]] := by decide +kernel

/-- Chapter 9's log of records 65500..27. -/
def fullLog : Log :=
  { records := (List.range 64).map fun k => ⟨(65500 + k) % 65536, .slipDelete, 11, 7, 280, 244, 2⟩, next := 28, overwrites := 9 }

/-- A LOG REPORT from `s` on. -/
def logReport (from_ : Nat) : List Octet :=
  (after .reportSubmission
    { station with log := fullLog, service := some { subject := 1#8, parameter := from_, inquirer := 13#4 } }).bus.reports.headD []

/-- Chapter 9, Worked example: the LOG window across the wrap. -/
theorem test_reportSubmission_log :
    (logReport 20).take 7 = [0x54#8, 13#8, 1#8, 1#8, 4#8, 20#8, 0#8]
      ∧ (logReport 24).take 6 = [0x54#8, 13#8, 1#8, 0#8, 4#8, 24#8] ∧ logReport 28 = [0x54#8, 13#8, 1#8, 0#8, 0#8]
      ∧ ((logReport 65534).drop 41).take 2 = [1#8, 0#8] ∧ (logReport 65490).take 7 = [0x54#8, 13#8, 1#8, 3#8, 4#8, 0xDC#8, 0xFF#8]
      ∧ (logReport 40).take 7 = [0x54#8, 13#8, 1#8, 3#8, 4#8, 0xDC#8, 0xFF#8] := by decide +kernel

/-- Chapter 9: a DELETE on line 11 then takes sequence 28 and the oldest is overwritten. -/
theorem test_logAdd :
    let g := fullLog.add .slipDelete 11 7 280 244 2
    g.next = 29 ∧ g.overwrites = 10 ∧ g.records.length = 64 ∧ g.records.head?.map Record.sequence = some 65501 := by decide +kernel

/-- Chapter 7's example of a CLEAR. -/
theorem test_clear :
    let s := ({ station with flags := { station.flags with contend := true } } : State).onMon 5 fun m =>
      { m with diverge := true, latched := { m.latched with wander := true, diverge := true } }
    let t := after .clear (hearing s [0x6D#8, 0xFF#8] 5 0)
    (t.line 5).mon.latched.wander = false ∧ (t.line 5).mon.latched.diverge = true ∧ t.flags.contend = false := by decide +kernel

/-- Chapter 7's example of a RESTART. -/
theorem test_restart :
    let s := hearing { anchored with
      peers := anchored.peers.set 7 { state := .active }, counters := ⟨0, 0, 0, 2, 0⟩
      floor := { anchored.floor with sequence := 117 } } [0x7D#8, 4#8] 5 0
    let t := after .restart { s with queue := s.queue ++ [⟨withCheck [0x37#8, 0xFF#8, 8#8], 5, 0⟩] }
    t.queue = [] ∧ (t.peer 7).state = .absent ∧ t.floor.state = .start ∧ t.counters.overflow = 2 ∧ t.floor.sequence = 117
      ∧ (t.line 5).lrx.align = .search ∧ t.selected = none ∧ t.steer.role = none := by decide +kernel

/-- R155, R138, R177: the queue is emptied, and a RESTART that stood behind the first still restarts the station once (log 37). -/
theorem test_restart_further :
    let s := hearing station [0x7D#8, 4#8] 5 0
    let more : List RxEntry := [⟨withCheck [0x37#8, 0xFF#8, 8#8], 5, 0⟩, ⟨withCheck [0x7C#8, 4#8], 9, 0⟩]
    let t := after .restart { s with queue := s.queue ++ more }
    let u := after .restart { t with queue := more.take 1 }
    t.queue = [] ∧ t.restartsWaiting = 1 ∧ nextOwn t = some .restart ∧ u.queue = [] ∧ u.restartsWaiting = 0
      ∧ nextOwn u = none := by decide +kernel

/-! ### The clockwork -/

/-- R14: a frame start sampled in the period that floor time passes to 13 is stamped 13. -/
theorem test_stampOfOwnPeriod :
    let s := ({ station with
      floor := { station.floor with time := 12 }, pins := { lineClock := 4#16 } } : State).onLrx 2
        fun r => { r with align := .aligned, rxCount := 272 }
    let t := idle (idle s)
    t.pending = [.frameStartStamp 2] ∧ ((after (.frameStartStamp 2) t).line 2).lrx.acc.s0 = some 13 := by decide +kernel

/-- R71: a delimiter between the jump and its shift is stamped in unshifted time and carries the old generation. -/
theorem test_startDelimiter_beforeShift :
    let s : State := { station with floor := { state := .start, listen := 3 }, peers := station.peers.set 2 (heard .anchored 2 (-12000) 4) }
    let t := after .startDelimiter (after .epochMark s)
    t.floor.generation = 1 ∧ t.bus.frame.map RxFrame.stamp = some 0 ∧ t.bus.frame.map RxFrame.generation = some 0 := by decide +kernel

/-- R19: an expiry that has come about is void once a RESTART has restarted the watch. -/
theorem test_restart_voidsExpiry :
    let s := after .restart (hearing anchored [0x7D#8, 4#8] 5 0)
    ((idle { s with due := [.edgeWatchExpiry 5] }).pending = []) ∧ ((idle { s with due := [.edgeWatchExpiry 5] }).due = []) := by
  decide +kernel

/-- Chapter 6, Worked example: four TIMINGs at one bulletin mark: a mismatch in the first bit of octet 0 stops after 26 bit
times. -/
theorem test_readBackStops :
    let s := sendingReport .sending 1
    let at_ (n : Nat) (stop : Option Nat) : State := { s with
      bus := { s.bus with flight := some { slot := .report, phase := .sending, attempts := 1, sent := n, stop := stop } } }
    (tickSending (at_ 1551 none)).bus.flight.bind Flight.stop = some (64 * 26)
      ∧ (tickSending (at_ 1550 none)).bus.flight.bind Flight.stop = none
      ∧ (tickSending (at_ 1663 (some 1664))).due = [.collision] ∧ (tickSending (at_ 1662 (some 1664))).due = [] := by decide +kernel

/-- R103, R101: the count runs in the station's own sending: no transition at the middle of the held-high violation, one at its end,
none through the first end-delimiter bit time, which is counted, and one as the driver goes off. -/
theorem test_ownSendingCountsQuiet :
    let at_ (sent quiet : Nat) : State := { sendingReport .sending 1 with
      bus := { (sendingReport .sending 1).bus with
        busy := true, quiet := quiet, bitPhase := sent % 64, flight := some { slot := .report, phase := .sending, sent := sent } } }
    driverEdge (at_ (64 * 16 + 31) 0) = false ∧ driverEdge (at_ (64 * 17 - 1) 0) = true ∧ driverEdge (at_ (64 * 15 + 31) 0) = true
      ∧ (tick (at_ (64 * 81 - 1) 0)).bus.quiet = 1 ∧ (tick (at_ (64 * 81) 1)).bus.quiet = 1
      ∧ (tick (at_ (64 * 82 - 1) 1)).bus.quiet = 0 ∧ (tick (at_ (64 * 82 - 1) 1)).due = [.transmissionRelease] := by decide +kernel

/-- R36: the jump's cut ends at the next boundary. -/
theorem test_cutEndsAtBoundary :
    let s : State := { station with floor := { station.floor with cut := true, listenEnded := true, secondRead := true } }
    (after .floorFrameBoundary s).floor.cut = false ∧ (after .floorFrameBoundary s).floor.listenEnded = false := by decide +kernel

/-- What a test notes in period `k`. -/
def noting (k : Nat) : Mark := ⟨k, 3, false⟩

/-- R100: the middle transitions of the first two bits of a preamble on a pair that was idle show where bit times begin. -/
theorem test_preambleLocks :
    let r := (recoverBits noting (preamble.take 2) (0, false, { since := 81 })).2.2
    r.locked = true ∧ r.phase = 63 ∧ r.recent = [] := by decide +kernel

/-- R100: from reset no transition has been seen, and the first alone shows nothing (log 10, log 13). -/
theorem test_firstTransitionAlone :
    (Recovery.next {} true true true (noting 0)).locked = false ∧ (Recovery.next { since := 63 } true true true (noting 0)).locked = true := by
  decide +kernel

/-- R100: each half is then read at its centre, a violation like a bit, and the beginning of the bit time is noted. -/
theorem test_bitTimesRead :
    let read (h : Bool × Bool) := (recoverBits noting [h] (640, false, { locked := true, phase := 63 })).2.2
    ∀ a b, (read (a, b)).recent = [{ halves := (a, b), mark := noting 640 }] ∧ (read (a, b)).phase = 63 := by decide +kernel

/-- R101, R105: the start delimiter as sent, and inverted, in either polarity. -/
theorem test_delimiters :
    delimiterIn false startMark = some .normal ∧ delimiterIn true startMark = some .inverted
      ∧ delimiterIn false (startMark.map fun h => (!h.1, !h.2)) = some .inverted
      ∧ delimiterIn true (startMark.map fun h => (!h.1, !h.2)) = some .normal ∧ delimiterIn false (preamble.take 8) = none := by
  decide +kernel

/-- R113: a launch released before a jabber cut is judged when its echo ends. -/
theorem test_echoJudgedAfterCut :
    let s : State := { station with bus := { station.bus with
      echoMiss := 2, echoAwaited := true, frame := some { ownEcho := true } } }
    (after .carrierIdle (after .jabberCutoff s)).bus.echoMiss = 3 := by decide +kernel

/-- R2: the watch of a line without an edge counts, and runs out at 3670. -/
theorem test_edgeWatchCounts :
    let s := station.onLrx 2 fun r => { r with edgeWatch := 3669 }
    (tick s).due = [.edgeWatchExpiry 2] ∧ ((tick s).line 3).lrx.edgeWatch = 1 := by decide +kernel

/-! ### Witnesses: states and operands that meet the hypotheses of each statement, clause by clause

One conjunct, or one group of conjuncts, for each clause, at the boundary values of its ranges. -/

/-- Line 2 of the station with a receiver of its own. -/
def receiving (r : Lrx) : State := station.onLrx 2 fun _ => r

theorem witness_ResetFloorClock : State.reset.inReset = true := rfl

/-- Each source of an own command: a notice of either kind, a RESTART that waits, the head of the queue, the list of what is due,
and none. -/
theorem witness_StepRunsFrontCommand :
    let due (cs : List Instr) : State := { station with due := cs }
    let queued := hearing anchored [0x7D#8, 4#8] 5 0
    station.pending = [] ∧ station.lostNotice = none ∧ station.gradeNotice = none ∧ station.queue = []
      ∧ nextOwn { station with lostNotice := some 2, gradeNotice := some (2, 3) } = some (.selectionLostNotice 2)
      ∧ nextOwn { station with gradeNotice := some (2, 3) } = some (.gradeChangeNotice 2 3)
      ∧ queued.restartsWaiting = 0 ∧ nextOwn { station with restartsWaiting := 1 } = some .restart
      ∧ queued.running = true ∧ queued.service = none ∧ queued.queue.head?.map (fun e => kindOf e.octets) = some 7
      ∧ nextOwn { queued with due := [.epochMark] } = some .restart
      ∧ (due [.launch, .epochMark]).due.filter (stillDue (due [.launch, .epochMark])) = [.epochMark]
      ∧ asItStands station (.confirmationPoint 2 [true]) = .candidateTaken 2 [true] := by decide +kernel

/-- With no command waiting and none of its own come about, the station's step is a fine-clock period. -/
theorem witness_Idling : Idling station ∧ BusIdling station ∧ Idling reading := by
  unfold BusIdling Idling
  decide +kernel

/-- The image read with `n` periods passed. -/
def readingAt (n : Nat) (bits : List Bool) : State := { reading with loader := { reading.loader with fu := n, bits := bits } }

theorem witness_ReleaseStartsLoad :
    State.reset.inReset = true ∧ reading.floor.state = .loading ∧ (readingAt 1567 []).loader.phase = .reading
      ∧ ((readingAt 1567 []).loader.fu + 1) % 64 = 32 ∧ (readingAt 1567 []).loader.fu + 1 = 24 * 64 + 32
      ∧ (readingAt 1567 (List.replicate 7 true)).loader.bits.length = 7
      ∧ (readingAt 61951 []).loader.fu + 1 = 968 * 64 ∧ (tick (readingAt 61951 [])).due = [.handOverIntoStart []] := by
  decide +kernel

theorem witness_ImageGivesConfiguration :
    ((List.replicate 118 0xFF#8).getD 0 0#8 ≠ 0x56#8)
      ∧ exampleImage.getD 0 0#8 = 0x56#8 ∧ exampleImage.getD 1 0#8 = 0x52#8 := by decide +kernel

theorem witness_HandOverEntersStart :
    reading.inReset = false ∧ reading.loader.phase = .reading
      ∧ (reading.loader.buffer ++ exampleImage).length = 118 ∧ (reading.loader.buffer ++ exampleImage.take 117).length < 118 := by
  decide +kernel

theorem witness_ClockLossAndReturn :
    (anchored.running = true ∧ (anchored.line 5).lrx.align ≠ .off ∧ (anchored.line 5).lrx.align ≠ .dark
        ∧ (anchored.line 5).mon.otherwise = true ∧ anchored.selected = some 5)
      ∧ (let s := after (.edgeWatchExpiry 5) anchored;
        s.running = true ∧ (s.line 5).lrx.align = .dark ∧ (s.line 5).lrx.lof = true)
      ∧ clockEdge station 2 = false ∧ clockEdge { station with pins := { lineClock := 4#16 } } 2 = true
      ∧ (station.line 2).lrx.align ≠ .off := by decide +kernel

theorem witness_SearchTimerExpiryAssertsLof :
    station.running = true ∧ (station.line 2).lrx.align = .search ∧ (station.line 2).mon.otherwise = false
      ∧ (station.line 2).lrx.lof = false ∧ ((receiving { align := .check }).line 2).lrx.align = .check := by decide +kernel

theorem witness_CandidateTakenAtFirstMatch :
    let s := receiving { scan := [false, true, true, false, true, false, true, true], searchBits := 4606 }
    s.running = true ∧ (s.line 2).lrx.align = .search ∧ (s.line 2).lrx.held = [] ∧ (s.line 2).lrx.scan.length ≤ 8
      ∧ [false] ≠ [] ∧ ((s.line 2).lrx.failed < 8 ∧ (s.line 2).lrx.searchBits + [false].length < 4608)
      ∧ ((s.line 2).lrx.scan ++ [false]).drop ((s.line 2).lrx.scan.length + [false].length - 8) = octetBits 0x6B#8 := by
  decide +kernel

/-- The one bit at which the timer comes to 16 periods: it makes a match, and it does not. -/
theorem witness_CandidateTakenAtFirstMatch_oneBit :
    let s := receiving { scan := [false, true, true, false, true, false, true, true], searchBits := 4607 }
    (s.line 2).lrx.held = [] ∧ (s.line 2).mon.otherwise = false ∧ (s.line 2).lrx.failed < 8 ∧ (s.line 2).lrx.searchBits = 4607
      ∧ (((after (.candidateTaken 2 [false]) s).line 2).lrx.held = octetBits 0x6B#8
        ∧ ((after (.candidateTaken 2 [false]) s).line 2).lrx.lof = true)
      ∧ ((after (.candidateTaken 2 [true]) s).line 2).lrx.held = [] := by decide +kernel

theorem witness_CandidateTakenAtFirstMatch_earlier (P : Nat → Prop) (k : Nat) (h : 0 < k) (h' : k < [false].length) : P k := by
  simp only [List.length_singleton] at h'
  omega

theorem witness_CandidateServiceOctetEntersCheck :
    let s := receiving { held := octetBits 0x6B#8, failed := 7, searchBits := 4599 }
    s.running = true ∧ (s.line 2).lrx.align = .search ∧ (s.line 2).lrx.held.length = 8
      ∧ ((s.line 2).lrx.failed < 8 ∧ (s.line 2).lrx.searchBits + 8 < 4608) := by decide +kernel

/-- One bit of the service octet, the first and the eighth, with the timer one short of 16 periods. -/
theorem witness_CandidateServiceOctetEntersCheck_oneBit :
    let s (n : Nat) := receiving { held := octetBits 0x6B#8 ++ List.replicate n true, searchBits := 4607 }
    ((s 0).line 2).lrx.held.length = 8 ∧ ((s 7).line 2).lrx.held.length = 15 ∧ ((s 0).line 2).mon.otherwise = false
      ∧ ((after (.candidateServiceOctet 2 [true]) (s 0)).line 2).lrx.align = .search
      ∧ ((after (.candidateServiceOctet 2 [true]) (s 7)).line 2).lrx.candidate = some ⟨3#2, 0⟩
      ∧ ((after (.candidateServiceOctet 2 [true]) (s 7)).line 2).mon.latched.lof = true := by decide +kernel

/-- A bit of CHECK that no test stands at, and one that ends a good alignment word. -/
theorem witness_ConfirmationsLeadToAligned_oneBit :
    let s (n : Nat) := receiving { align := .check, held := confirmedBits.take n, candidate := some ⟨1#2, 0⟩, searchBits := 4608 }
    ((s 16).line 2).lrx.held.length = 16 ∧ ((s 295).line 2).lrx.held.length = 295 ∧ ((s 16).line 2).mon.otherwise = false
      ∧ (s 16).running = true ∧ ((s 16).line 2).lrx.align = .check ∧ ((s 16).line 2).lrx.candidate = some ⟨1#2, 0⟩
      ∧ bitsOctet (((s 295).line 2).lrx.held.drop 288 ++ [false]) = 0x6B#8
      ∧ ((after (.confirmationPoint 2 [false]) (s 295)).line 2).lrx.held.length = 296 := by decide +kernel

theorem witness_ConfirmationsLeadToAligned :
    (let s := receiving { align := .check, held := confirmedBits.take 303, candidate := some ⟨1#2, 0⟩ };
      s.running = true ∧ (s.line 2).lrx.align = .check ∧ (s.line 2).lrx.candidate = some ⟨1#2, 0⟩
        ∧ (s.line 2).lrx.held.length = 303 ∧ serviceCount (bitsOctet ((s.line 2).lrx.held.drop 296 ++ [false])) = 1#2 + 1#2
        ∧ ((s.line 2).lrx.failed < 8 ∧ (s.line 2).lrx.searchBits + 1 < 4608))
      ∧ (let s := receiving { align := .check, held := confirmedBits, candidate := some ⟨2#2, 1⟩ };
        (s.line 2).lrx.align = .check ∧ (s.line 2).lrx.candidate = some ⟨2#2, 1⟩ ∧ (s.line 2).lrx.held.length = 591
          ∧ serviceCount (bitsOctet ((s.line 2).lrx.held.drop 584 ++ [false])) = 2#2 + 1#2) := by decide +kernel

/-- A candidate with `n` bits held, all zeros. -/
def hunting (n : Nat) : State := receiving { align := .check, held := List.replicate n false, candidate := some ⟨2#2, 0⟩, failed := 7 }

theorem witness_FailedCandidateIsCounted :
    (hunting 295).running = true ∧ ((hunting 295).line 2).lrx.align = .check ∧ ((hunting 295).line 2).lrx.candidate = some ⟨2#2, 0⟩
      ∧ ((hunting 295).line 2).lrx.held.length = 295 ∧ ((hunting 583).line 2).lrx.held.length = 583
      ∧ bitsOctet (((hunting 295).line 2).lrx.held.drop 288 ++ [false]) ≠ 0x6B#8
      ∧ bitsOctet (((hunting 583).line 2).lrx.held.drop 576 ++ [false]) ≠ 0x6B#8
      ∧ ((hunting 303).line 2).lrx.held.length = 303 ∧ ((hunting 591).line 2).lrx.held.length = 591
      ∧ serviceCount (bitsOctet (((hunting 303).line 2).lrx.held.drop 296 ++ [false])) ≠ 2#2 + 1#2
      ∧ serviceCount (bitsOctet (((hunting 591).line 2).lrx.held.drop 584 ++ [false])) ≠ 2#2 + 1#2
      ∧ ((hunting 295).line 2).lrx.failed = 7 ∧ ((hunting 295).line 2).lrx.searchBits = 0
      ∧ ((after (.confirmationPoint 2 [false]) (hunting 591)).line 2).lrx.lof = true
      ∧ ((after (.confirmationPoint 2 [false]) (hunting 591)).line 2).lrx.held = [] := by decide +kernel

theorem witness_FrameStartIsStamped :
    let s := receiving { align := .aligned, acc := ⟨some 32750, 961, 63⟩ }
    s.running = true ∧ (s.line 2).lrx.align = .aligned ∧ (s.line 2).lrx.acc.s0 = some 32750
      ∧ ((receiving { align := .aligned }).line 2).lrx.acc.s0 = none
      ∧ s.floor.kind = .normal ∧ s.floor.shift = none ∧ s.floor.time < 32768 := by decide +kernel

theorem witness_WordWindowHoldsAlignment :
    (let s := receiving { align := .aligned, wordWindow := [true, false, false, true] };
      s.running = true ∧ (s.line 2).lrx.align = .aligned
        ∧ ((s.line 2).lrx.wordWindow.take 3).count true + (if 0x6A#8 = 0x6B#8 then 0 else 1) < 3)
      ∧ (let s := receiving { align := .aligned, wordWindow := [true, false, true, false] };
        (s.line 2).lrx.align = .aligned
          ∧ 3 ≤ ((s.line 2).lrx.wordWindow.take 3).count true + (if 0x6A#8 = 0x6B#8 then 0 else 1)) := by decide +kernel

theorem witness_ServiceOctetIsDecoded :
    let s := receiving { align := .aligned, wordWindow := [false, true] }
    s.running = true ∧ (s.line 2).lrx.align = .aligned ∧ (s.line 2).lrx.wordWindow.head? ≠ some true
      ∧ ((receiving { align := .aligned, wordWindow := [true] }).line 2).lrx.wordWindow.head? = some true
      ∧ (let run (g : Nat) (code : BitVec 3) := anchored.onLrx 5 fun r => { r with grade := g, gradeRun := ⟨some code, 3⟩ };
        (after (.serviceOctetDecode 5 0x60#8) (run 2 3#3)).gradeNotice = some (5, 3)
          ∧ (after (.serviceOctetDecode 5 0xE0#8) (run 2 7#3)).lostNotice = some 5) := by decide +kernel

theorem witness_LineOctetIsWritten :
    (receiving { align := .aligned }).running = true ∧ ((receiving { align := .aligned }).line 2).lrx.align = .aligned := by
  decide +kernel

theorem witness_ReceiverClosesEpoch : station.running = true ∧ station.enabled 15 = true := by decide +kernel

/-- Line 4 with a fill above slip-high. -/
def overfull (pending : Bool) : State := (slipping 271 0 false).onStore 4 fun x => { x with deletePending := pending }

theorem witness_SlipsMoveReadCell :
    (let s := slipping 197 5 true;
      s.running = true ∧ s.enabled 4 = true ∧ s.isAligned 4 = true ∧ s.steered = true ∧ (s.line 4).store.request = none
        ∧ 17 = ((s.line 4).store.w.val + 288 - 36 * (s.line 4).store.n.val) % 288 ∧ 17 < (s.lineSetup 4).slipLow
        ∧ (s.lineSetup 4).slipLow ≤ 135 ∧ (s.line 4).store.repeatPending = true ∧ (s.line 4).store.slipTotal ≤ 65535
        ∧ (s.line 4).store.epochSlips ≤ 255)
      ∧ (let s := overfull true;
        s.isAligned 4 = true ∧ s.steered = true ∧ (s.line 4).store.request = none
          ∧ 271 = ((s.line 4).store.w.val + 288 - 36 * (s.line 4).store.n.val) % 288 ∧ (s.lineSetup 4).slipHigh < 271
          ∧ 153 ≤ (s.lineSetup 4).slipHigh ∧ (s.lineSetup 4).slipLow ≤ 135 ∧ (s.line 4).store.deletePending = true
          ∧ (s.line 4).store.slipTotal ≤ 65535 ∧ (s.line 4).store.epochSlips ≤ 255) := by decide +kernel

theorem witness_FirstReadingOnlyPends :
    (let s := slipping 197 5 false;
      s.running = true ∧ s.enabled 4 = true ∧ s.isAligned 4 = true ∧ (s.line 4).store.request = none
        ∧ 17 = ((s.line 4).store.w.val + 288 - 36 * (s.line 4).store.n.val) % 288 ∧ (s.line 4).store.repeatPending = false
        ∧ 17 < (s.lineSetup 4).slipLow ∧ (s.lineSetup 4).slipLow ≤ (s.lineSetup 4).slipHigh)
      ∧ (let s := overfull false;
        271 = ((s.line 4).store.w.val + 288 - 36 * (s.line 4).store.n.val) % 288 ∧ (s.line 4).store.deletePending = false
          ∧ (s.lineSetup 4).slipHigh < 271)
      ∧ (let s := station.onStore 4 fun x => { x with request := some .jump };
        s.isAligned 4 = false ∧ (s.line 4).store.request = some .jump) := by decide +kernel

theorem witness_RecentreCentresFill :
    let s (c : Cause) := (slipping 216 4 false).onStore 4 fun x => { x with request := some c }
    (s .jump).running = true ∧ (s .jump).enabled 4 = true ∧ (s .jump).isAligned 4 = true
      ∧ ((s .jump).line 4).store.request = some .jump ∧ ((s .aligned).line 4).store.request = some .aligned := by decide +kernel

theorem witness_FifthSlipAssertsExcess :
    let slip (s : State) := s.onStore 4 fun x => { x with epochSlips := 4 }
    let now (s : State) : State := { s with floor := { s.floor with frame := 1 } }
    (let s := now (slip (slipping 197 5 true));
      s.running = true ∧ s.enabled 4 = true ∧ s.isAligned 4 = true ∧ s.steered = true ∧ (s.line 4).store.request = none
        ∧ 17 = ((s.line 4).store.w.val + 288 - 36 * (s.line 4).store.n.val) % 288
        ∧ 4 = (if s.floor.frame = 0 then 0 else (s.line 4).store.epochSlips)
        ∧ (17 < (s.lineSetup 4).slipLow ∧ (s.line 4).store.repeatPending = true))
      ∧ (let s := now (slip (overfull true));
        271 = ((s.line 4).store.w.val + 288 - 36 * (s.line 4).store.n.val) % 288
          ∧ ¬ 271 < (s.lineSetup 4).slipLow ∧ (s.lineSetup 4).slipHigh < 271 ∧ (s.line 4).store.deletePending = true)
      ∧ ((after (.readMark 4) (now (slip (slipping 197 5 true)))).line 4).store.excess = true := by decide +kernel

/-- The station with line 15 disabled. -/
def offLine : State := { station with setup := { lines := (Vector.replicate 16 {}).set 15 { enable := false } } }

theorem witness_FrameIsDecidedAtReadMark :
    (slipping 196 5 false).running = true ∧ (slipping 196 5 false).enabled 4 = true
      ∧ offLine.running = true ∧ offLine.enabled 15 = false
      ∧ ((after (.readMark 4) (slipping 252 2 false)).line 4).framer.inHand.map InHand.traffic = some true := by decide +kernel

theorem witness_FramerSendsBitInPlace :
    let s (t : Nat) : State := ({ station with floor := { station.floor with time := t } } : State).onFramer 2
      fun f => { f with inHand := some ⟨3, true⟩ }
    (0 < 288 ∧ (s 0).floor.time = 0 * 1024 / 9 ∧ ((s 0).line 2).framer.inHand = some ⟨3, true⟩)
      ∧ (287 < 288 ∧ (s 32654).floor.time = 287 * 1024 / 9)
      ∧ (∀ k, k < 288 → k * 1024 / 9 ≠ (s 1).floor.time) ∧ (station.line 2).framer.inHand = none
      ∧ ((tick (s 0)).line 2).framer = ((frameBit 2 (s 0)).line 2).framer
      ∧ ((tick (s 1)).line 2).framer = ((s 1).line 2).framer := by decide +kernel

theorem witness_ParityCountSetsDegraded :
    station.running = true ∧ station.enabled 0 = true ∧ (station.lineSetup 0).parityLimit = 8 := by decide +kernel

theorem witness_DriftChangeSetsWander :
    (let s := drifting 1 (-1) 58 34;
      s.running = true ∧ (∀ l, (s.line l).mon.wanderRun ≤ 3) ∧ s.enabled 5 = true ∧ (s.line 5).mon.handedDrift = some 58
        ∧ (s.line 5).mon.prevDrift = some 34 ∧ (58 - 34 : Int) = (s.lineSetup 5).wanderLimit)
      ∧ (let s := (drifting 1 (-1) 58 34).onMon 5 fun m => { m with wander := true, wanderRun := 3 };
        (∀ l, (s.line l).mon.wanderRun ≤ 3) ∧ (s.line 5).mon.wander = true ∧ (s.line 5).mon.wanderRun = 3)
      ∧ (station.line 0).mon.handedDrift = none := by decide +kernel

theorem witness_DriftFromReferenceSetsDiverge :
    let s := drifting 1 (-1) 58 30
    s.running = true ∧ (∀ l, (s.line l).mon.divergeRun ≤ 3) ∧ s.enabled 0 = true ∧ (s.line 0).mon.handedDrift = some 1
      ∧ (s.line 3).mon.handedDrift = some (-1) ∧ (s.line 5).mon.handedDrift = some 58
      ∧ (s.line 1).mon.handedDrift = none := by decide +kernel

theorem witness_DriftFromReferenceSetsDiverge_least (k : LineNo) (x : Int)
    (h : ((drifting 1 (-1) 58 30).line k).mon.handedDrift = some x) :
    |(1 : Int)| < |x| ∨ (|(1 : Int)| = |x| ∧ (0 : LineNo) ≤ k) := by
  have h1 : ∀ k : LineNo, ((drifting 1 (-1) 58 30).line k).mon.handedDrift
      = if k = 0 then some 1 else if k = 3 then some (-1) else if k = 5 then some 58 else none := by decide +kernel
  rw [h1 k] at h
  split at h
  · cases h; exact .inr ⟨rfl, Fin.zero_le k⟩
  · split at h
    · cases h; exact .inr ⟨by decide, Fin.zero_le k⟩
    · split at h
      · cases h; exact .inl (by decide)
      · cases h

theorem witness_CrosscheckIsAssertedAndReleased :
    (let s := (drifting 1 (-1) 32 30).onMon 5 fun m => { m with crosscheck := true, crossReleaseRun := 3 };
      s.running = true ∧ (∀ l, (s.line l).mon.crossReleaseRun ≤ 3) ∧ s.enabled 5 = true ∧ (s.line 5).mon.crosscheck = true
        ∧ (s.line 5).mon.handedDrift = some 32 ∧ (s.line 5).mon.crossReleaseRun = 3)
      ∧ (let s := anchored.onMon 5 fun m => { m with crossRun := 3 };
        (s.line 5).mon.crossRun ≤ 3 ∧ (s.line 5).mon.crosscheck = false ∧ (s.lineSetup 5).maskCrosscheck = false
          ∧ s.selected = some 5 ∧ (s.line 5).mon.otherwise = true) := by decide +kernel

/-- Anchored on line 5 beside a peer of its grade, with the crosscheck record of the computation before: a term that has moved by
`n` against a mean that has not. -/
def runningAway (n : Nat) : State :=
  { anchored.onMon 5 (fun m => { m with handedPhase := some (1000 + n), crossRun := 3 }) with
    peers := anchored.peers.set 7 (heard .anchored 2 48 4)
    steer := { anchored.steer with recordAnchor := some (5, 0), recordMean := some 12 } }

/-- R98: 33 fu is OVER, 32 is not; the fourth OVER in a row asserts CROSSCHECK. -/
theorem witness_CrosscheckIsAssertedAndReleased_verdict :
    (runningAway 33).running = true ∧ Computes (runningAway 33) ∧ (runningAway 33).lostNotice = none
      ∧ (runningAway 33).floor.shift = none ∧ (∀ k, ((runningAway 33).line k).mon.crossRun ≤ 3)
      ∧ JudgedOver (runningAway 33) (after .epochMark (runningAway 33)) 5
      ∧ ¬ JudgedOver (runningAway 32) (after .epochMark (runningAway 32)) 5
      ∧ ((after .epochMark (runningAway 33)).line 5).mon.crosscheck = true
      ∧ (after .epochMark (runningAway 33)).lostNotice = some 5
      ∧ ((after .epochMark (runningAway 32)).line 5).mon.crossRun = 0 := by
  refine ⟨rfl, .inr (.inl rfl), rfl, rfl, by decide +kernel, ?_, ?_, by decide +kernel⟩ <;> unfold JudgedOver <;> decide +kernel

/-- The station with a good line 5 selected meets the selector's invariant. -/
theorem witness_SelectionSound : SelectionSound anchored where
  otherwise := by decide +kernel
  candidate := by decide +kernel
  selected := fun l h => by
    have : l = 5 := by
      have h5 : anchored.selected = some 5 := rfl
      rw [h5] at h
      exact (Option.some.inj h).symm
    subst this
    decide +kernel
  anchored := by decide +kernel
  reading := by decide +kernel
  loading := by decide +kernel

theorem witness_WaitCountsDownToCandidacy : anchored.running = true ∧ SelectionSound anchored :=
  ⟨by decide +kernel, witness_SelectionSound⟩

theorem witness_ChoiceIsBestCandidate : anchored.running = true ∧ SelectionSound anchored :=
  ⟨by decide +kernel, witness_SelectionSound⟩

theorem witness_BoundaryCountsAndAddsF :
    let s (f r : Int) : State := { station with floor := { station.floor with freq := f, residue := r, frame := 63 } }
    (s 1 65535).inReset = false ∧ (s 1 65535).floor.frame < 64 ∧ (s 1 65535).floor.freq.natAbs ≤ 32767
      ∧ (s 1 65535).floor.residue.natAbs ≤ 65535 ∧ (s (-1) (-65535)).floor.residue.natAbs ≤ 65535
      ∧ station.floor.frame ≠ 63
      ∧ (let at_ (k : FrameKind) (t : Nat) (second : Bool) : State := { station with
          floor := { station.floor with kind := k, time := t, secondRead := second } };
        (tick (at_ .short 32766 false)).floor.time = 0 ∧ (tick (at_ .short 32765 false)).floor.time = 32766
          ∧ (tick (at_ .normal 32767 false)).floor.time = 0 ∧ (tick (at_ .normal 32766 false)).floor.time = 32767
          ∧ (tick (at_ .long 32767 false)).floor.time = 32767 ∧ (tick (at_ .long 32767 true)).floor.time = 0
          ∧ (tick (at_ .normal 32767 false)).due = [.floorFrameBoundary])
      ∧ (.receiverEpochClose 15 ∉ (s 0 0).due ∧ .receiverEpochClose 15 ∈ (after .floorFrameBoundary (s 0 0)).due
        ∧ .monitorEpochWork ∈ (after .floorFrameBoundary (s 0 0)).due
        ∧ (after .floorFrameBoundary { reading with floor := { reading.floor with frame := 63 } }).due = [])
      ∧ (let cut (n : Nat) : State := { s 0 0 with bus := { (s 0 0).bus with jabber := true, marksSinceCut := n } };
        .jabberReexamination ∉ (cut 0).due ∧ .jabberReexamination ∉ (after .floorFrameBoundary (cut 0)).due
          ∧ (after .floorFrameBoundary (cut 0)).bus.marksSinceCut = 1
          ∧ .jabberReexamination ∈ (after .floorFrameBoundary (cut 1)).due) := by decide +kernel

theorem witness_EpochMarkTakesPeers :
    (let s : State := { station with
      floor := { state := .start, listen := 2 }
      peers := ((station.peers.set 1 { state := .active, sinceAny := 14, sinceTiming := 1, hold := 1 }).set 2
        { state := .stale, sinceAny := 15 }) };
      s.running = true ∧ (s.peer 0).state = .absent ∧ (s.peer 1).state ≠ .absent ∧ (s.peer 1).sinceAny < 15
        ∧ (s.peer 2).state ≠ .absent ∧ 15 ≤ (s.peer 2).sinceAny ∧ s.floor.state = .start ∧ s.floor.listen < 3
        ∧ s.steer.role = none)
      ∧ (let s (residue : Int) : State := { station with floor := { state := .start, listen := 3, residue := residue } };
        (s 65535).running = true ∧ (after .epochMark (s 65536)).floor.kind = .short ∧ (after .epochMark (s 65536)).floor.residue = 0
          ∧ (after .epochMark (s 65535)).floor.kind = .normal ∧ (after .epochMark (s (-65536))).floor.kind = .long
          ∧ (after .epochMark (s 0)).floor.listen = 4 ∧ (after .epochMark (s 0)).floor.listenEnded = true
          ∧ station.floor.state ≠ .start ∧ (after .epochMark station).floor.epochFirst = true) := by decide +kernel

theorem witness_Computes :
    Computes anchored ∧ Computes { station with floor := { state := .acquire } }
      ∧ Computes { station with floor := { state := .start, listen := 3 } } :=
  ⟨.inr (.inl rfl), .inl rfl, .inr (.inr ⟨rfl, rfl⟩)⟩

theorem witness_EpochMarkDecidesRole : anchored.running = true ∧ Computes anchored ∧ anchored.lostNotice = none :=
  ⟨rfl, witness_Computes.1, rfl⟩

/-- The four cases of a change of lead come about: into ANCHORED, kept, out of ANCHORED, neither before nor after. -/
theorem witness_ChangeOfLeadHolds :
    anchored.running = true ∧ anchored.lostNotice = none
      ∧ (after .epochMark anchored).steer.role = some .anchored
      ∧ (after .epochMark { anchored with steer := { anchored.steer with role := none, anchor := none } }).steer.role = some .anchored
      ∧ (after .epochMark { anchored with selected := none }).steer.role = some .free
      ∧ (after .epochMark station).steer.role = some .free := by decide +kernel

theorem witness_JumpShiftsFloorOnce :
    let s : State := { station with
      floor := { state := .start, listen := 3, lock := 2 }, peers := station.peers.set 2 (heard .anchored 2 (-2052) 4) }
    s.running = true ∧ s.lostNotice = none ∧ s.floor.shift = none ∧ s.floor.lock ≤ 2
      ∧ (let a : State := { s with floor := { state := .acquire, lock := 3 } };
        a.floor.state ≠ .start ∧ (after .epochMark a).floor.shift = none ∧ combinedError a (after .epochMark a) = some (-513))
      ∧ (after .epochMark s).floor.shift = some (-513)
      ∧ (after .epochMark { s with peers := station.peers.set 2 (heard .anchored 2 (-2048) 4) }).floor.shift = none
      ∧ combinedError s (after .epochMark s) = some (-513) ∧ s.setup.jumpThreshold < (-513 : Int).natAbs
      ∧ 3 ≤ s.floor.listen ∧ (tick { station with floor := { station.floor with shift := some 3000 } }).floor.time = 29769 := by
  decide +kernel

theorem witness_FollowersDoNotSteer :
    let s : State := { station with peers := station.peers.set 1 (heard .following 2 36 4) }
    let e : Peer := heard .following 1 (-900) 3
    (s.peer 1).announced.map Announced.role = some .following ∧ e.announced.map Announced.role = some .following
      ∧ e.hold = (s.peer 1).hold ∧ e.sinceAny = (s.peer 1).sinceAny ∧ e.state ≠ .absent ∧ (s.peer 1).state ≠ .absent := by
  decide +kernel

theorem witness_AnchoredAloneFollowsLine :
    let at_ (p u : Nat) : State := { anchored.onMon 5 (fun m => { m with handedPhase := some p }) with
      floor := { anchored.floor with unlock := u } }
    let s := at_ 1256 0
    s.floor.state = .track ∧ s.lostNotice = none ∧ s.selected = some 5 ∧ s.steer.role = some .anchored ∧ s.steer.anchor = some 5
      ∧ s.steer.offset = some 1000 ∧ (s.line 5).mon.handedPhase = some 1256 ∧ s.steer.ownHold = 0
      ∧ (∀ q, (s.peer q).state = .absent ∧ (s.peer q).hold = 0) ∧ 0 < s.setup.weight (s.line 5).lrx.grade
      ∧ 0 < s.setup.anchorGain ∧ (256 : Int) = wrap ((1256 : Int) - 1000) ∧ (256 : Int).natAbs ≤ 4 * s.setup.lockWindow
      ∧ 4 * s.setup.lockWindow < (wrap ((1257 : Int) - 1000)).natAbs ∧ (at_ 1257 1).floor.unlock = 1 := by decide +kernel

/-- The second part of the statement: a follower at the lock window and beyond it, with a hold and without, a station that comes to
hold its memory, and the fourth locked epoch. -/
theorem witness_AnchoredAloneFollowsLine_any :
    let s (sum : Int) (hold : Nat) : State := { station with
      floor := { state := .acquire, lock := 3, integral := 6400 }, peers := station.peers.set 2 { heard .anchored 2 sum 4 with hold := hold } }
    let h : State := { station with
      floor := { state := .acquire }, steer := { station.steer with ring := List.replicate 16 1500, historyValid := true, holdAge := 0 } }
    (s 256 0).running = true ∧ Computes (s 256 0) ∧ (s 256 0).lostNotice = none ∧ (s 256 0).floor.shift = none
      ∧ (s 256 0).floor.lock ≤ 3 ∧ (s 256 0).floor.unlock ≤ 1
      ∧ combinedError (s 256 0) (after .epochMark (s 256 0)) = some 64 ∧ (after .epochMark (s 256 0)).floor.state = .track
      ∧ combinedError (s 260 0) (after .epochMark (s 260 0)) = some 65 ∧ (after .epochMark (s 260 0)).floor.lock = 0
      ∧ (after .epochMark (s 256 0)).floor.integral = 5888 ∧ (after .epochMark (s 256 1)).floor.integral = 6400
      ∧ (after .epochMark h).steer.holdover = some 1500 ∧ (after .epochMark h).floor.integral = 96000
      ∧ (after .epochMark h).floor.freq = 1500 ∧ (after .epochMark h).floor.lock = 1 := by
  unfold Computes
  decide +kernel

theorem witness_TraceableEpochsMakeHistory :
    anchored.running = true ∧ anchored.lostNotice = none ∧ (after .epochMark anchored).steer.runCount = 1
      ∧ (after .epochMark { anchored with steer := { anchored.steer with runCount := 63 } }).steer.historyValid = true
      ∧ (after .epochMark { anchored with steer := { anchored.steer with runCount := 62 } }).steer.historyValid = false
      ∧ (after .epochMark station).steer.runCount = 0 := by decide +kernel

theorem witness_NoticesReachAnchoredUnit :
    anchored.steer.role = some .anchored ∧ station.steer.role ≠ some .anchored
      ∧ (let s : State := { anchored with steer := { anchored.steer with historyValid := true, holdAge := 30720 } };
        s.steer.historyValid = true ∧ s.steer.holdAge ≤ s.setup.holdoverLimit * 256)
      ∧ ¬ (anchored.steer.historyValid = true ∧ anchored.steer.holdAge ≤ anchored.setup.holdoverLimit * 256) := by decide +kernel

theorem witness_BulletinMarkBuilds :
    (let s : State := { station with floor := { state := .start } };
      s.running = true ∧ s.floor.state = .start)
      ∧ (station.running = true ∧ station.steered = true ∧ station.floor.listenEnded = false ∧ station.standalone = false
        ∧ station.duplicate = false ∧ station.bus.timing.isSome = false)
      ∧ (let s : State := { station with bus := { station.bus with
          timing := some [], flight := some { slot := .timing, phase := .sending } } };
        s.bus.timing.isSome = true ∧ s.bus.flying .timing = true ∧ s.bus.sending = true)
      ∧ (let f : Flight := { slot := .timing, phase := .backoff, attempts := 15, backoff := 64 };
        let s : State := { station with
          floor := { station.floor with epochFirst := true }, bus := { station.bus with timing := some [], flight := some f } };
        s.bus.flight = some f ∧ s.floor.epochFirst = true ∧ s.enabledLines[15]? = some 15
          ∧ (after .bulletinMark s).bus.flight = some { f with attempts := 0 }
          ∧ (after .bulletinMark s).bus.timing.map List.length = some 41)
      ∧ (station.urgent = false ∧ station.nonurgent = false
        ∧ ({ station with steer := { station.steer with role := some .free } } : State).urgent = true
        ∧ ({ station with floor := { state := .start }, steer := { station.steer with role := some .free } } : State).urgent = false
        ∧ (station.onMon 15 fun m => { m with latched := { m.latched with crosscheck := true } }).nonurgent = true
        ∧ (offLine.onMon 15 fun m => { m with latched := { m.latched with crosscheck := true } }).nonurgent = false) := by
  decide +kernel

theorem witness_LaunchStampsAndSends :
    let s (t : Nat) : State := { station with
      floor := { station.floor with time := t }
      bus := { station.bus with timing := some (List.replicate 9 0#8), flight := some { slot := .timing } } }
    (s 31743).running = true ∧ (s 31743).standalone = false ∧ (s 31743).bus.enabled = true
      ∧ (s 31743).bus.flight = some { slot := .timing } ∧ ({ slot := .timing } : Flight).phase = .gap
      ∧ (s 31743).bus.timing = some (List.replicate 9 0#8) ∧ 4 ≤ (List.replicate 9 0#8).length
      ∧ (s 31743).floor.kind = .normal ∧ (s 31743).floor.time < 31744 ∧ 31744 ≤ (s 31744).floor.time
      ∧ (s 31744).floor.time < 32768
      ∧ (after .launch (s 31743)).bus.timing.map launchStampOf = some 32767
      ∧ (after .launch (s 31744)).bus.timing.map launchStampOf = some 0
      ∧ (let g (q : Nat) : State := { s 5 with bus := { (s 5).bus with quiet := q, bitPhase := 63 } };
        endsBitTime (g 27) = true ∧ (tick (g 27)).due = [.carrierIdle, .launch] ∧ (tick (g 26)).due = [.carrierIdle]) := by
  decide +kernel

theorem witness_ReleaseEndsFlight :
    let s (e : Option Bool) (own : Option Bool) : State := { sendingReport .sending 1 with bus := { (sendingReport .sending 1).bus with
      echoResult := e, echoMiss := 3, frame := own.map fun b => { ownEcho := b } } }
    (s none none).bus.flight = some { slot := .report, phase := .sending, attempts := 1 } ∧ (s none none).bus.echoMiss ≤ 4
      ∧ (s (some true) none).bus.echoResult = some true ∧ (s (some false) none).bus.echoResult = some false
      ∧ (s none none).bus.frame = none ∧ (s none (some true)).bus.frame.map RxFrame.ownEcho = some true
      ∧ (s none (some false)).bus.frame.map RxFrame.ownEcho = some false
      ∧ (([0x54#8, 13#8, 9#8, 0#8, 0#8] : Bulletin).length + 2) * 8 + 26 = 82
      ∧ (let g : State := { s none none with
          pins := { senseLevel := wireLevel (withCheck [0x54#8, 13#8, 9#8, 0#8, 0#8]) (64 * 82) }
          bus := { (s none none).bus with flight := some { slot := .report, phase := .sending, sent := 64 * 82 - 1 } } };
        (tick g).due = [.transmissionRelease]) := by decide +kernel

theorem witness_CollisionBacksOffOrDrops :
    (sendingReport .sending 15).bus.flight = some { slot := .report, phase := .sending, attempts := 15 }
      ∧ (sendingReport .sending 16).bus.flight = some { slot := .report, phase := .sending, attempts := 16 }
      ∧ (sendingReport .backoff 3).bus.flight = some { slot := .report, phase := .backoff, attempts := 3 }
      ∧ (sendingReport .sending 15).duplicate = false
      ∧ (let g (n : Nat) : State := { sendingReport .backoff 3 with bus := { (sendingReport .backoff 3).bus with
          busy := false, bitPhase := 63, flight := some { slot := .report, phase := .backoff, backoff := n } } };
        endsBitTime (g 1) = true ∧ (tick (g 1)).due = [.backoffExpiry] ∧ (tick (g 2)).due = []
          ∧ (tick (g 2)).bus.flight.map Flight.backoff = some 1) := by decide +kernel

theorem witness_JabberCutsAndReleases :
    station.running = true ∧ station.standalone = false ∧ station.bus.jabber = false ∧ station.bus.flight = none
      ∧ (sendingReport .sending 1).bus.flight.isSome = true ∧ station.pins.driveSense = false
      ∧ (after .jabberCutoff station).bus.jabber = true
      ∧ (let g (n : Nat) : State := { station with
          pins := { driveSense := true }, bus := { station.bus with busy := false, driveRun := n, bitPhase := 63 } };
        endsBitTime (g 1024) = true ∧ (tick (g 1024)).due = [.jabberCutoff] ∧ (tick (g 1023)).due = []
          ∧ (tick { g 1023 with pins := {} }).bus.driveRun = 0) := by decide +kernel

theorem witness_DelimitersAndIdleCarrier :
    station.running = true ∧ station.standalone = false ∧ station.bus.ignoring = false ∧ station.bus.frame = none
      ∧ (after .startDelimiter station).bus.frame.map RxFrame.ownEcho = some false
      ∧ (after .startDelimiter (sendingReport .sending 1)).bus.frame.map RxFrame.ownEcho = some true
      ∧ (after .startDelimiter (sendingReport .sending 1)).bus.echoAwaited = false
      ∧ station.bus.recovery.recent.map BitTime.halves ≠ startMark.map (fun h => (h.1 != false, h.2 != false))
      ∧ (let recent := startMark.map fun h => ({ halves := h, mark := { stamp := 7, generation := 2 } } : BitTime);
        let s : State := { station with bus := { station.bus with recovery := { recent := recent } } };
        s.bus.recovery.recent.map BitTime.halves = startMark.map (fun h => (h.1 != s.bus.inverted, h.2 != s.bus.inverted))
          ∧ (after .startDelimiter s).bus.frame.map RxFrame.stamp = some 7)
      ∧ (let g (q : Nat) : State := { station with bus := { station.bus with quiet := q, bitPhase := 63 } };
        (tick (g 3)).due = [.carrierIdle] ∧ (tick (g 2)).due = [] ∧ (tick (g 2)).bus.quiet = 3
          ∧ transition { g 3 with pins := { busLevel := true } } = true
          ∧ (tick { g 3 with pins := { busLevel := true } }).bus.quiet = 0)
      ∧ (let g (sent : Nat) (stop : Option Nat) : State := { sendingReport .sending 1 with
          bus := { (sendingReport .sending 1).bus with flight := some { slot := .report, phase := .sending, sent := sent, stop := stop } } };
        transition (g 31 none) = true ∧ transition (g 30 none) = false ∧ transition (g 1700 (some 1701)) = true
          ∧ transition (g (64 * 82 - 1) none) = true) := by decide +kernel

theorem witness_WireRoundTrip :
    (List.replicate 62 0xA5#8).length ≤ 62 ∧ ({} : RxFrame).octets = [] ∧ ({} : RxFrame).bits = []
      ∧ ({} : RxFrame).violation = false
      ∧ ({ locked := true, phase := 63, since := 81 } : Recovery).locked = true
      ∧ (let ending (inverted : Bool) (frame : Option RxFrame) : State :=
          let before := (startMark.take 7).map fun h => ({ halves := h, mark := { stamp := 7, generation := 2 } } : BitTime)
          { station with
            pins := { busLevel := true }
            bus := { station.bus with
              busy := true, lastLevel := true, inverted := inverted, frame := frame
              recovery := { locked := true, phase := 47, mark := some ⟨9, 0, false⟩, first := some false, recent := before } } };
        (tick (ending false none)).due = [.startDelimiter] ∧ (tick (ending true none)).due = [.invertedDelimiter]
          ∧ (tick (ending false (some {}))).due = [.frameEnd [(false, true)]]
          ∧ (tick (ending false none)).bus.recovery.recent.length = 8) := by decide +kernel

/-- The station with a frame in reception. -/
def getting (f : RxFrame) : State := { station with bus := { station.bus with frame := some f } }

/-- A frame with seven bits of an octet: one bit time completes the octet, or is the first violation, and leaves the frame open. -/
theorem witness_FrameEndSortsBulletin_oneBit :
    let almost : RxFrame := { octets := [0x37#8], bits := List.replicate 7 true }
    (almost.violation = false ∧ almost.octets.length < 64
        ∧ (after (.frameEnd [(false, false)]) (getting almost)).bus.frame = some { almost with violation := true })
      ∧ exec (.frameEnd [(true, false)]) (getting almost) = .next { getting almost with
          bus := { (getting almost).bus with frame := some { octets := [0x37#8, 0xFF#8] } } } :=
  ⟨by decide +kernel, rfl⟩

theorem witness_FrameEndSortsBulletin :
    (let s := after .startDelimiter station;
      s.bus.frame = some {} ∧ s.bus.inverted = false ∧ ({} : RxFrame).ownEcho = false ∧ s.duplicate = false)
      ∧ (kindOf [0x00#8] = 0 ∧ kindOf [0x80#8] = 8) ∧ ¬ (kindOf [0x37#8, 0xFF#8] = 0) ∧ kindOf [0x37#8, 0xFF#8] = 3
      ∧ (kindOf [0x37#8, 0xFF#8, 8#8] = 3 ∧ sourceOf [0x37#8, 0xFF#8, 8#8] = 7)
      ∧ sourceOf [0x34#8, 0xFF#8, 8#8] = station.number ∧ sourceOf [0x3C#8, 0xFF#8, 8#8] = 12
      ∧ (kindOf [0x6C#8, 4#8] = 6 ∧ sourceOf [0x6C#8, 4#8] = 12 ∧ octetAt [0x6C#8, 4#8] 1 = station.number)
      ∧ sourceOf [0x6B#8, 4#8] = 11 ∧ octetAt [0x6C#8, 5#8] 1 ≠ station.number
      ∧ (List.replicate 512 true).length ≤ 512 ∧ 512 < (List.replicate 513 true).length ∧ (List.replicate 15 true).length < 16
      ∧ checkGood [0x37#8, 0xFF#8, 8#8, 0#8, 0#8] = false
      ∧ (after (.frameEnd ((List.replicate 513 true).map bitHalves)) (after .startDelimiter station)).bus.ignoring = true
      ∧ (after (.frameEnd ((List.replicate 512 true).map bitHalves)) (after .startDelimiter station)).bus.frame.isSome = true := by
  decide +kernel

theorem witness_Sized : Sized [0x37#8, 0xFF#8, 8#8] ∧ Sized [0x6C#8, 4#8] ∧ ¬ Sized [0x37#8, 0xFF#8] := by
  refine ⟨.inr (.inr (.inl ⟨by decide +kernel, by decide⟩)),
    .inr (.inr (.inr (.inr (.inr (.inl ⟨by decide +kernel, by decide⟩))))), ?_⟩
  unfold Sized
  decide +kernel

/-- The entry a bulletin of a witness makes at the head of the queue. -/
def entry (x : List Octet) : RxEntry := ⟨withCheck x, 5, 0⟩

/-- A bulletin at the head of the queue of the station is served. -/
theorem witness_HeadServed :
    HeadServed 1 (entry [0x17#8, 0xFF#8, 0#8, 0#8, 0x16#8, 0#8, 0#8, 1#8, 0#8])
        (hearing station [0x17#8, 0xFF#8, 0#8, 0#8, 0x16#8, 0#8, 0#8, 1#8, 0#8] 5 0)
      ∧ HeadServed 2 (entry [0x2B#8, 0xFF#8, 0#8, 1#8, 0#8]) (hearing station [0x2B#8, 0xFF#8, 0#8, 1#8, 0#8] 5 0)
      ∧ HeadServed 3 (entry [0x30#8, 0xFF#8, 8#8]) (hearing station [0x30#8, 0xFF#8, 8#8] 5 0)
      ∧ HeadServed 4 (entry [0x4D#8, 4#8, 1#8, 20#8, 0#8]) (asked 1#8 station)
      ∧ HeadServed 6 (entry [0x6D#8, 0xFF#8]) (hearing station [0x6D#8, 0xFF#8] 5 0)
      ∧ HeadServed 7 (entry [0x7D#8, 4#8]) (hearing station [0x7D#8, 4#8] 5 0) := by
  unfold HeadServed
  decide +kernel

theorem witness_ServeTimingUpdatesEntry :
    sourceOf (entry [0x17#8, 0xFF#8, 0#8, 0#8, 0x16#8, 0#8, 0#8, 1#8, 0#8]).octets = (7 : PeerNo).val
      ∧ (station.peer 7).lastSeq = none ∧ (station.peer 7).state = .absent ∧ station.setup.profile = 0#8 := by decide +kernel

theorem witness_ServeIntroUpdatesEntry :
    sourceOf (entry [0x2B#8, 0xFF#8, 0#8, 1#8, 0#8]).octets = (11 : PeerNo).val ∧ (station.peer 11).state = .absent
      ∧ flagAt (entry [0x2B#8, 0xFF#8, 0#8, 1#8, 0#8]).octets 4 0 = false ∧ station.bus.flight = none
      ∧ (after .serveIntro (hearing station [0x2B#8, 0xFF#8, 0#8, 1#8, 0#8] 5 0)).bus.flight = some { slot := .intro } := by
  decide +kernel

theorem witness_ServeHoldSetsHold : sourceOf (entry [0x30#8, 0xFF#8, 8#8]).octets = (0 : PeerNo).val := by decide +kernel

theorem witness_InquiriesEnterService :
    octetAt (entry [0x4D#8, 4#8, 1#8, 20#8, 0#8]).octets 2 = 1 ∧ (asked 1#8 station).bus.reports.length < 4
      ∧ octetAt (entry [0x4D#8, 4#8, 0#8, 20#8, 0#8]).octets 2 = 0
      ∧ octetAt (entry [0x4D#8, 4#8, 5#8, 20#8, 0#8]).octets 2 = 5 := by decide +kernel

theorem witness_ReportIsSubmitted :
    let s : State := { station with service := some { subject := 3#8, parameter := 0, inquirer := 13#4 } }
    s.service = some { subject := 3#8, parameter := 0, inquirer := 13#4 } ∧ s.standalone = false
      ∧ s.bus.reports.length < 4 := by decide +kernel

theorem witness_LogSound : LogSound fullLog where
  size := by decide +kernel
  next := by decide +kernel
  sequences := by
    simp [fullLog, consecutiveFrom, List.range, List.range.loop]
  overwrites := by decide +kernel

theorem witness_ReportContents :
    let s : State := { station with
      log := fullLog, service := some { subject := 1#8, parameter := 28, inquirer := 13#4, delay := 1 } }
    s.standalone = false ∧ s.bus.reports.length < 4
      ∧ s.service = some { subject := 1#8, parameter := 28, inquirer := 13#4, delay := 1 } ∧ LogSound s.log :=
  ⟨by decide +kernel, by decide +kernel, rfl, witness_LogSound⟩

/-- A PEERS report in building with nothing, five and all of its positions read, and a STATION report at its last field; the periods
before and at the submission. -/
theorem witness_ReportContents_building :
    let built (subject : Octet) (n age : Nat) (payload : BitVec 384) : Build :=
      { subject := subject, parameter := 0, inquirer := 13#4, unitsDone := n, payload := payload, age := age, delay := 3 }
    let building (subject : Octet) (n age : Nat) (payload : BitVec 384) : State :=
      { station with service := some (built subject n age payload) }
    station.standalone = false ∧ station.bus.reports.length < 4 ∧ station.running = true
      ∧ Idling (building 3#8 5 2 7#384)
      ∧ (0#384).toNat < 2 ^ unitBits 3 0 ∧ (7#384).toNat < 2 ^ unitBits 3 5 ∧ unitBits 3 12 = 384
      ∧ (7#384).toNat < 2 ^ unitBits 4 37 ∧ unitBits 4 37 = 336 ∧ unitBits 4 38 = 384
      ∧ stationPlaces = (stationFields station).map Machine.Field.pos
      ∧ unitsOf station { subject := 3#8, parameter := 0, inquirer := 13#4 } = 12
      ∧ unitsOf station { subject := 4#8, parameter := 0, inquirer := 13#4 } = 38 := by
  unfold Idling
  decide +kernel

theorem witness_ClearLeavesLiveFlags :
    station.enabled 5 = true ∧ offLine.enabled 15 = false
      ∧ (kindOf (entry [0x6D#8, 0xFF#8]).octets) = 6 := by decide +kernel

/-- A RESTART at the head of the queue is served, and one that waits is, whatever the queue holds. -/
theorem witness_RestartServed :
    let s := hearing station [0x7D#8, 4#8] 5 0
    let more := [entry [0x7C#8, 4#8]]
    RestartServed more 0 { s with queue := entry [0x7D#8, 4#8] :: more } ∧ RestartServed [] 0 s
      ∧ RestartServed more 2 { s with queue := more, restartsWaiting := 3 } :=
  ⟨⟨rfl, rfl, .inl ⟨rfl, rfl, _, by decide, rfl⟩⟩, ⟨rfl, rfl, .inl ⟨rfl, rfl, entry [0x7D#8, 4#8], by decide, rfl⟩⟩,
    ⟨rfl, rfl, .inr ⟨rfl, rfl⟩⟩⟩

theorem witness_RestartReturnsToStart :
    station.enabled 5 = true ∧ offLine.enabled 15 = false
      ∧ (sendingReport .sending 1).bus.flight = some { slot := .report, phase := .sending, attempts := 1 }
      ∧ station.bus.flight.map Flight.phase ≠ some .sending := by decide +kernel

/-- A running state meets the clock's invariant, and its step answers a next state. -/
theorem witness_ClockStaysBounded :
    ClockSound station ∧ step { station with pending := [.epochMark] } = .next (after .epochMark station) :=
  ⟨by constructor <;> decide +kernel, rfl⟩

theorem witness_SelectionStaysSound :
    SelectionSound anchored ∧ step { anchored with pending := [.monitorEpochWork] } = .next (after .monitorEpochWork anchored) :=
  ⟨witness_SelectionSound, rfl⟩

theorem witness_OutputCarriesOnlyAlignedTraffic :
    OutputSound station ∧ step { station with pending := [.readMark 4] } = .next (after (.readMark 4) station) := by
  have none_in_hand : ∀ l, (station.line l).framer.inHand = none := by decide +kernel
  refine ⟨⟨?_, by decide +kernel⟩, rfl⟩
  intro l h e
  rw [none_in_hand l] at e
  cases e

theorem witness_LiveConditionsStayLatched :
    FlagsSound station ∧ AlignSound station
      ∧ step { station with pending := [.edgeWatchExpiry 2] } = .next (after (.edgeWatchExpiry 2) station) := by
  have nothing_live : ∀ l c, (station.line l).live c = false := by
    intro l c
    cases c <;> revert l <;> decide +kernel
  have flags : FlagsSound station := by
    constructor
    · intro l c e
      rw [nothing_live l c] at e
      cases e
    all_goals decide +kernel
  exact ⟨flags, by constructor <;> decide +kernel, rfl⟩

theorem witness_TablesStaySound :
    LogSound fullLog ∧ BusSound station
      ∧ step { station with pending := [.serveHold] } = .next (after .serveHold station) := by
  have tables : BusSound station := by
    constructor
    case silent =>
      intro e
      cases e
    all_goals decide +kernel
  exact ⟨witness_LogSound, tables, rfl⟩

end Sys2Proof.Tests
end

section
/-! The service of a CLEAR bulletin (03, section 3.4, R51; 09, section 9.3, R165; R137). -/

namespace Sys2Proof.Machine

/-! ### An operation that rewrites each line of a list from that line alone -/

/-- Each line of a list without repetition is rewritten once, from its own value; the other lines stay. -/
theorem forLines_setLine_line (h : Line → Line) (ls : List LineNo) (nodup : ls.Nodup) (s : State) (m : LineNo) :
    (s.forLines ls fun t l => t.setLine l (h (t.line l))).line m = if m ∈ ls then h (s.line m) else s.line m := by
  induction ls generalizing s with
  | nil => simp [State.forLines]
  | cons l ls ih =>
    obtain ⟨fresh, nodup⟩ := List.nodup_cons.mp nodup
    have tail := ih nodup (s.setLine l (h (s.line l)))
    rw [State.line_setLine] at tail
    refine tail.trans ?_
    by_cases e : m = l
    · subst e
      simp [fresh]
    · simp [e]

/-- Rewriting lines leaves all of the state but the lines. -/
theorem forLines_setLine_frame (h : Line → Line) (ls : List LineNo) (s : State) :
    { s.forLines ls (fun t l => t.setLine l (h (t.line l))) with lines := s.lines } = s :=
  State.forLines_induct (fun t => { t with lines := s.lines } = s) _ ls s rfl fun _ _ _ kept => kept

theorem enabledLines_nodup (s : State) : s.enabledLines.Nodup :=
  List.Nodup.filter _ (by decide)

/-! ### What a CLEAR leaves of the flags -/

/-- A line's flag outlasts a CLEAR exactly while its condition is live (R51). -/
@[simp] theorem clearedFlags_get (x : Line) (c : LineCond) :
    (clearedFlags x).get c = (x.mon.latched.get c && x.live c) := by
  cases c <;> rfl

/-- A line after a CLEAR (R51): what `clearLine` writes, by `clearFlags_eq`. -/
def Line.cleared (x : Line) : Line := { x with mon := { x.mon with latched := clearedFlags x } }

theorem profileLive_iff (s : State) : profileLive s.peers = true ↔ ∃ p, (s.peer p).state = .mismatched := by
  simp only [profileLive, List.any_eq_true, beq_iff_eq, Vector.mem_toList_iff]
  constructor
  · rintro ⟨e, member, mismatched⟩
    obtain ⟨i, hi, rfl⟩ := Vector.getElem_of_mem member
    exact ⟨⟨i, hi⟩, mismatched⟩
  · rintro ⟨p, mismatched⟩
    exact ⟨s.peer p, Vector.getElem_mem p.isLt, mismatched⟩

/-- A CLEAR is a rewriting of the enabled lines, then of the station flags. -/
theorem clearFlags_eq (s : State) :
    clearFlags s = clearStationFlags (s.forLines s.enabledLines fun t l => t.setLine l (t.line l).cleared) := rfl

/-- A CLEAR rewrites each enabled line, and no other. -/
theorem clearFlags_line (s : State) (l : LineNo) :
    (clearFlags s).line l = if s.enabled l = true then (s.line l).cleared else s.line l := by
  rw [clearFlags_eq]
  refine (forLines_setLine_line Line.cleared s.enabledLines (enabledLines_nodup s) s l).trans ?_
  simp only [mem_enabledLines]

/-- The station flags after a CLEAR (R165): what the lines' rewriting leaves is read as it stood before. -/
theorem clearFlags_flags (s : State) : (clearFlags s).flags = (clearStationFlags s).flags := by
  rw [clearFlags_eq]
  have flags := congrArg (fun t => (clearStationFlags t).flags) (forLines_setLine_frame Line.cleared s.enabledLines s)
  exact flags

/-- A CLEAR moves nothing but lines and station flags. -/
theorem clearFlags_frame (s : State) : { clearFlags s with lines := s.lines, flags := s.flags } = s := by
  rw [clearFlags_eq]
  exact congrArg (fun t : State => { t with flags := s.flags }) (forLines_setLine_frame Line.cleared s.enabledLines s)

/-! ### The service -/

theorem exec_clear (s : State) : exec .clear s = execClear s := rfl

/-- A head that is served is the one its command finds. -/
theorem headOfKind_of_headServed {k : Nat} {q : RxEntry} {s : State} (served : HeadServed k q s) : headOfKind s k = some q := by
  obtain ⟨running, idle, noRestart, head, kind⟩ := served
  simp [headOfKind, servable, State.serves, running, idle, noRestart, head, kind]

/-- A CLEAR at the head leaves the queue and clears the flags. -/
theorem execClear_of_headServed {q : RxEntry} {s : State} (served : HeadServed 6 q s) :
    execClear s = .next (clearFlags s.popped) := by
  simp [execClear, headOfKind_of_headServed served]

/-- The service of a CLEAR takes the queue's head, and outside the lines, the station flags and the queue it leaves the state. -/
theorem clearFlags_popped_frame (s : State) :
    (clearFlags s.popped).queue = s.queue.tail
      ∧ { clearFlags s.popped with lines := s.lines, flags := s.flags, queue := s.queue } = s := by
  have rest := clearFlags_frame s.popped
  exact ⟨(congrArg State.queue rest).trans List.drop_one, congrArg (fun t : State => { t with queue := s.queue }) rest⟩

/-- Settles O53: each enabled line by `clearFlags_line`, the station by `clearFlags_flags`, the rest by the frame. -/
theorem clearLeavesLiveFlags : Obligations.ClearLeavesLiveFlags := by
  intro q s served
  obtain ⟨queue, rest⟩ := clearFlags_popped_frame s
  have station := clearFlags_flags s.popped
  refine ⟨clearFlags s.popped, by rw [exec_clear, execClear_of_headServed served], ?enabled, ?disabled,
    congrArg StationFlags.duplicate station, congrArg StationFlags.echo station, congrArg StationFlags.jabber station,
    congrArg StationFlags.contend station, congrArg StationFlags.config station, ?profile, queue, rest⟩
  case enabled =>
    intro l enabled
    have line : (clearFlags s.popped).line l = (s.line l).cleared := (clearFlags_line s.popped l).trans (if_pos enabled)
    rw [line]
    exact ⟨clearedFlags_get (s.line l), rfl⟩
  case disabled =>
    intro l disabled
    exact (clearFlags_line s.popped l).trans (if_neg (by simp [disabled]))
  case profile =>
    rw [station, ← profileLive_iff]
    exact Bool.and_eq_true_iff

end Sys2Proof.Machine
end

section
/-! The floor clock unit's reset (04, section 4.1, R79). -/

namespace Sys2Proof.Machine

/-! ### The reset commands -/

/-- Power-on and a reset-pin assertion do the same: every block goes to its power-on value (R170). -/
theorem exec_of_reset {c : Instr} (reset : c = .powerOn ∨ c = .resetPinAssertion) (s : State) :
    exec c s = .next (resetPart s) := by
  rcases reset with rfl | rfl <;> rfl

@[simp] theorem resetPart_floor (s : State) : (resetPart s).floor = {} := rfl
@[simp] theorem resetPart_steer (s : State) : (resetPart s).steer = {} := rfl

theorem exec_resetPinRelease (k : BitVec 4) (s : State) : exec (.resetPinRelease k) s = execResetPinRelease k s := rfl

/-- The release of a part held in reset starts floor time and the image read, and moves nothing else (R79, R171). -/
theorem execResetPinRelease_of_inReset (k : BitVec 4) {s : State} (held : s.inReset = true) :
    execResetPinRelease k s
      = .next { s with inReset := false, floor := { s.floor with time := 0 }, loader := { strap := k } } :=
  congrArg Host.Outcome.next (if_pos held)

/-! ### The fallback grade -/

/-- Without a valid history the floor falls back to grade 5, whatever the holdover limit (R76). -/
theorem fallbackGrade_of_no_history (u : Setup) {t : Steer} (invalid : t.historyValid = false) : fallbackGrade u t = 5 := by
  simp [fallbackGrade, invalid]

/-! ### R79 -/

/-- Settles O2: the reset leaves the clock and the steering at their power-on values, read off field by field; the fallback
grade follows from the invalid history; floor time at the release by `execResetPinRelease_of_inReset`. -/
theorem resetFloorClock : Obligations.ResetFloorClock := by
  intro c k s
  constructor
  case left =>
    intro reset
    refine ⟨resetPart s, exec_of_reset reset s, ?_⟩
    simp [fallbackGrade_of_no_history]
  case right =>
    intro held
    exact ⟨_, (exec_resetPinRelease k s).trans (execResetPinRelease_of_inReset k held), rfl⟩

end Sys2Proof.Machine
end

section
/-! Four invariants say that the floor is in LOADING while the loader reads, but not where the floor stands while the part is held
in reset. A part held in reset with its image done and its floor in START meets each of them, and RESET_PIN_RELEASE then starts the
loader's read in START (R171). `BusSound` names the floor state in reset (`held`), and is kept. -/

namespace Sys2Proof.Machine

/-- A part held in reset whose image is done and whose floor is in START, about to be released. -/
def heldLoaded : State :=
  { inReset := true, loader := { phase := .done }, floor := { state := .start }, pending := [.resetPinRelease 0#4] }

/-- The same part after the release: the loader reads, and the floor is still in START. -/
def releasedInStart : State := { heldLoaded with inReset := false, loader := {}, pending := [] }

theorem step_heldLoaded : step heldLoaded = .next releasedInStart := rfl

/-- What the four invariants share, the floor's LOADING during the read, does not hold after the release. -/
theorem releasedInStart_reads_outside_loading :
    ¬ (releasedInStart.loader.phase = .reading → releasedInStart.floor.state = .loading) := by decide

@[simp] theorem heldLoaded_line (l : LineNo) : heldLoaded.line l = {} := by
  simp [State.line, heldLoaded, Vector.get_eq_getElem]

@[simp] theorem heldLoaded_lineSetup (l : LineNo) : heldLoaded.lineSetup l = {} := by
  simp [State.lineSetup, heldLoaded, Vector.get_eq_getElem]

theorem clockSound_heldLoaded : ClockSound heldLoaded := by
  constructor <;> simp [heldLoaded]

theorem selectionSound_heldLoaded : SelectionSound heldLoaded := by
  constructor
  case otherwise => intro l; simp [qualifies]
  case candidate => intro l; simp
  case selected => intro l; simp [heldLoaded]
  case anchored => simp [heldLoaded]
  case reading => simp [heldLoaded]
  case loading => simp [heldLoaded]

theorem outputSound_heldLoaded : OutputSound heldLoaded := by
  constructor
  case traffic => intro l h; simp
  case reading => simp [heldLoaded]

theorem alignSound_heldLoaded : AlignSound heldLoaded := by
  constructor
  case aligned => intro l; simp
  case dark => intro l; simp
  case off => intro _ l; simp [State.enabled]
  case reading => simp [heldLoaded]
  case loading => simp [heldLoaded]

/-- Refutes O56: the release of `heldLoaded`, which meets every bound, leaves a loader that reads in START. -/
theorem not_clockStaysBounded : ¬ Obligations.ClockStaysBounded := fun kept =>
  releasedInStart_reads_outside_loading (kept _ _ clockSound_heldLoaded step_heldLoaded).reading

/-- Refutes O57: the release of `heldLoaded`, whose lines and selection are sound, leaves a loader that reads in START. -/
theorem not_selectionStaysSound : ¬ Obligations.SelectionStaysSound := fun kept =>
  releasedInStart_reads_outside_loading (kept _ _ selectionSound_heldLoaded step_heldLoaded).reading

/-- Refutes O58: the release of `heldLoaded`, which sends no traffic, leaves a loader that reads in START. -/
theorem not_outputCarriesOnlyAlignedTraffic : ¬ Obligations.OutputCarriesOnlyAlignedTraffic := fun kept =>
  releasedInStart_reads_outside_loading (kept _ _ outputSound_heldLoaded step_heldLoaded).reading

/-- Refutes O59, by its part on alignment: the release of `heldLoaded` leaves a loader that reads in START. -/
theorem not_liveConditionsStayLatched : ¬ Obligations.LiveConditionsStayLatched := fun kept =>
  releasedInStart_reads_outside_loading ((kept _ _ step_heldLoaded).2 alignSound_heldLoaded).reading

end Sys2Proof.Machine
end

section
/-! What the operations of one line leave as it was: the frames of the receivers, the stores and the monitors. -/

namespace Sys2Proof.Machine

/-! ### Frames of one line -/

theorem OnlyLine.refl (l : LineNo) (s : State) : OnlyLine l s s := ⟨fun _ _ => rfl, rfl⟩

theorem OnlyLine.trans {l : LineNo} {s t u : State} (h : OnlyLine l s t) (g : OnlyLine l t u) : OnlyLine l s u :=
  ⟨fun m hm => (g.1 m hm).trans (h.1 m hm), (congrArg (fun x : State => { x with lines := s.lines }) g.2).trans h.2⟩

/-- A line's frame is one in which the selection and its notices stay too. -/
theorem OnlyLine.selection {l : LineNo} {s t : State} (h : OnlyLine l s t) : OnlyLineAndSelection l s t :=
  ⟨h.1, (congrArg (fun x : State => { x with
    lines := s.lines, selected := s.selected, lostNotice := s.lostNotice, gradeNotice := s.gradeNotice }) h.2 :)⟩

theorem onlyLine_onLrx (s : State) (l : LineNo) (f : Lrx → Lrx) : OnlyLine l s (s.onLrx l f) := onlyLine_setLine s l _
theorem onlyLine_onStore (s : State) (l : LineNo) (f : Store → Store) : OnlyLine l s (s.onStore l f) := onlyLine_setLine s l _
theorem onlyLine_onFramer (s : State) (l : LineNo) (f : Framer → Framer) : OnlyLine l s (s.onFramer l f) :=
  onlyLine_setLine s l _
theorem onlyLine_onMon (s : State) (l : LineNo) (f : Monitor → Monitor) : OnlyLine l s (s.onMon l f) := onlyLine_setLine s l _

/-! ### The operations on conditions -/

theorem raise_frame (c : LineCond) (l : LineNo) (s : State) : OnlyLineAndSelection l s (raise c l s) := (raise_spec c l s).2.2.2.2
theorem release_frame (c : LineCond) (l : LineNo) (s : State) : OnlyLineAndSelection l s (release c l s) :=
  (release_spec c l s).2.2.2.2
theorem acceptGrade_frame (l : LineNo) (g : Nat) (s : State) : OnlyLineAndSelection l s (acceptGrade l g s) :=
  (acceptGrade_spec l g s).2.2
theorem acceptFarEnd_frame (l : LineNo) (v : Bool) (s : State) : OnlyLineAndSelection l s (acceptFarEnd l v s) :=
  (acceptFarEnd_spec l v s).2.2
theorem squelch_frame (l : LineNo) (s : State) : OnlyLine l s (squelch l s) := (squelch_spec l s).2

/-! ### The receiver -/

theorem enterAligned_frame (l : LineNo) (s : State) : OnlyLineAndSelection l s (enterAligned l s) :=
  ((((onlyLine_onLrx s l _).selection.trans (acceptGrade_frame l 6 _)).trans (onlyLine_onStore _ l _).selection).trans
    (release_frame .lof l _)).trans (rejudge_frame l _)

theorem enterDark_frame (l : LineNo) (s : State) : OnlyLineAndSelection l s (enterDark l s) :=
  ((((onlyLine_onLrx s l _).selection.trans (acceptGrade_frame l 6 _)).trans (raise_frame .lof l _)).trans
    (rejudge_frame l _)).trans (squelch_frame l _).selection

theorem exitAligned_frame (l : LineNo) (s : State) : OnlyLineAndSelection l s (exitAligned l s) :=
  (((onlyLine_onLrx s l _).selection.trans (acceptGrade_frame l 6 _)).trans (rejudge_frame l _)).trans
    (squelch_frame l _).selection

theorem lineBit_frame (l : LineNo) (s : State) (b : Bool) : OnlyLineAndSelection l s (lineBit l s b) := by
  unfold lineBit
  dsimp only
  split
  · split
    · exact (onlyLine_onLrx s l _).selection.trans (enterAligned_frame l _)
    · split
      · exact (onlyLine_onLrx s l _).selection.trans (raise_frame .lof l _)
      · exact (onlyLine_onLrx s l _).selection
  · exact .refl l s

theorem lineBits_frame (l : LineNo) (bits : List Bool) (s : State) : OnlyLineAndSelection l s (lineBits l bits s) := by
  induction bits generalizing s with
  | nil => exact .refl l s
  | cons b bits ih => exact (lineBit_frame l s b).trans (ih _)

theorem decodeService_frame (l : LineNo) (o : Octet) (s : State) : OnlyLineAndSelection l s (decodeService l o s) := by
  have decoded := (onlyLine_onLrx s l fun r => r.decode o).selection
  unfold decodeService
  dsimp only
  split
  · split
    · exact (decoded.trans (acceptGrade_frame l _ _)).trans (acceptFarEnd_frame l _ _)
    · exact decoded.trans (acceptFarEnd_frame l _ _)
  · split
    · exact decoded.trans (acceptGrade_frame l _ _)
    · exact decoded

/-! ### The commands that bring something to one line -/

theorem execEdgeWatchExpiry_frame (l : LineNo) (s : State) :
    ∃ t, execEdgeWatchExpiry l s = .next t ∧ OnlyLineAndSelection l s t := by
  refine ⟨_, rfl, ?_⟩
  split
  · exact enterDark_frame l s
  · exact .refl l s

theorem execFirstClockEdge_frame (l : LineNo) (b : Bool) (s : State) :
    ∃ t, execFirstClockEdge l b s = .next t ∧ OnlyLineAndSelection l s t := by
  refine ⟨_, rfl, ?_⟩
  split
  · exact (onlyLine_onLrx s l _).selection.trans (lineBit_frame l _ b)
  · exact .refl l s

theorem execSearchTimerExpiry_frame (l : LineNo) (bits : List Bool) (s : State) :
    ∃ t, execSearchTimerExpiry l bits s = .next t ∧ OnlyLineAndSelection l s t := by
  refine ⟨_, rfl, ?_⟩
  split
  · dsimp only
    split
    · exact ((lineBits_frame l bits s).trans (onlyLine_onLrx _ l _).selection).trans (raise_frame .lof l _)
    · exact lineBits_frame l bits s
  · exact .refl l s

theorem execAlignmentWordCheck_frame (l : LineNo) (word : Octet) (s : State) :
    ∃ t, execAlignmentWordCheck l word s = .next t ∧ OnlyLineAndSelection l s t := by
  refine ⟨_, rfl, ?_⟩
  split
  · dsimp only
    split
    · exact (onlyLine_onLrx s l _).selection.trans (exitAligned_frame l _)
    · exact ((onlyLine_onLrx s l _).trans (onlyLine_onLrx _ l _)).selection
  · exact .refl l s

theorem execServiceOctetDecode_frame (l : LineNo) (o : Octet) (s : State) :
    ∃ t, execServiceOctetDecode l o s = .next t ∧ OnlyLineAndSelection l s t := by
  refine ⟨_, rfl, ?_⟩
  split
  · exact decodeService_frame l o s
  · exact .refl l s

theorem execFrameStartStamp_frame (l : LineNo) (s : State) : ∃ t, execFrameStartStamp l s = .next t ∧ OnlyLine l s t := by
  refine ⟨_, rfl, ?_⟩
  split
  · exact onlyLine_onLrx s l _
  · exact .refl l s

theorem execLineOctetWrite_frame (l : LineNo) (o : Octet) (s : State) :
    ∃ t, execLineOctetWrite l o s = .next t ∧ OnlyLine l s t := by
  refine ⟨_, rfl, ?_⟩
  split
  · exact (onlyLine_onLrx s l _).trans (onlyLine_onStore _ l _)
  · exact .refl l s

end Sys2Proof.Machine
end

section
/-! The steering computation, one part after the other (05, section 5.3, R81). -/

namespace Sys2Proof.Machine

/-! ### The parts of a computation, each as the state it leaves -/

/-- Role and leading grade (R86). -/
def State.lead (s : State) : Role × Nat :=
  decideRole s.selectedGrade (bestPeer s.steer.snapshot) (fallbackGrade s.setup s.steer)

/-- After part 2: role, offset, holdover and hold are decided (R84, R86, R88, R90). -/
def State.led (s : State) : State := roleStep s.lead s.selected s.selectedPhase s

/-- The anchor term (R83). -/
def State.anchorError (s : State) : Option Int := anchorTerm s.led.steer s.selectedPhase

/-- The terms of the peers that lead (R91). -/
def State.peerErrors (s : State) : List Int := peerTerms s.floor.generation s.lead.2 s.led.steer.snapshot

/-- The peer mean (R97). -/
def State.meanError (s : State) : Option Int := peerMean (s.setup.weight s.lead.2) s.peerErrors

/-- The combined error (R92). -/
def State.combined (s : State) : Option Int :=
  combine (s.setup.weight s.lead.2) s.setup.anchorGain s.peerErrors s.anchorError

/-- The jump is made (R70). -/
def State.jumping (ending : Bool) (s : State) : Bool := jumps s.setup ending s.combined

/-- After the lock tests (R72, R73). -/
def State.lockTested (ending : Bool) (s : State) : State :=
  { s.led with floor := lockStep s.setup (s.jumping ending) s.combined s.led.floor }

/-- After the jump, where it is made (R70, R71). -/
def State.jumped (ending : Bool) (s : State) : State :=
  if s.jumping ending then jumpStep (s.combined.getD 0) (s.lockTested ending) else s.lockTested ending

/-- After the loop filter (R93 to R96). -/
def State.filtered (ending : Bool) (s : State) : State :=
  { s.jumped ending with
    floor := filterStep s.setup (s.jumped ending).steer (if s.jumping ending then none else s.combined) (s.jumped ending).floor }

/-- After the own hold's count and the crosscheck record (R88, R97). -/
def State.recorded (ending : Bool) (s : State) : State :=
  (s.filtered ending).onSteer fun t => recordStep s.anchorError s.meanError { t with ownHold := t.ownHold - 1 }

/-- The line judged OVER, if one is (R98). -/
def State.over (ending : Bool) (s : State) : Option LineNo :=
  overVerdict (s.lockTested ending).steer s.anchorError s.meanError

/-- A computation is its parts, and then the verdict at every enabled line. -/
theorem compute_eq (ending : Bool) (s : State) :
    compute ending s
      = (s.recorded ending).forLines (s.recorded ending).enabledLines (takeVerdict (s.over ending)) := rfl

end Sys2Proof.Machine
end

section
/-! The invariant of the slip log, the queues and the peer table: what each operation keeps of it (06, 07, 08, 09). -/

namespace Sys2Proof.Machine

/-! ### What the invariant speaks of -/

/-- The part of the state that `LogSound` and `BusSound` read; everything else at its value in reset. -/
def State.tables (s : State) : State :=
  { queue := s.queue, restartsWaiting := s.restartsWaiting, inReset := s.inReset, peers := s.peers, duplicate := s.duplicate
    log := s.log, loader := { strap := s.loader.strap }, floor := { state := s.floor.state }
    bus := { reports := s.bus.reports, flight := s.bus.flight, frame := s.bus.frame } }

theorem busSound_tables (s : State) : BusSound s.tables ↔ BusSound s :=
  ⟨fun h => ⟨h.queue, h.reports, h.own, h.sources, h.silent, h.held, h.loading⟩,
    fun h => ⟨h.queue, h.reports, h.own, h.sources, h.silent, h.held, h.loading⟩⟩

/-- Between `s` and `t` the slip log and the tables are kept sound. -/
def TablesKept (s t : State) : Prop := (LogSound s.log → LogSound t.log) ∧ (BusSound s → BusSound t)

theorem TablesKept.of_tables {s t : State} (same : t.tables = s.tables) : TablesKept s t := by
  refine ⟨fun h => ?_, fun h => (busSound_tables t).mp (same ▸ (busSound_tables s).mpr h)⟩
  have log : t.log = s.log := (congrArg State.log same :)
  rwa [log]

theorem TablesKept.refl (s : State) : TablesKept s s := ⟨id, id⟩

theorem TablesKept.trans {s t u : State} (h : TablesKept s t) (g : TablesKept t u) : TablesKept s u :=
  ⟨g.1 ∘ h.1, g.2 ∘ h.2⟩

/-- An operation that keeps them sound, after others that do. -/
theorem TablesKept.next {s t : State} {f : State → State} (h : TablesKept s t) (g : ∀ u, TablesKept u (f u)) :
    TablesKept s (f t) := h.trans (g t)

theorem OnlyLineAndSelection.tables {l : LineNo} {s t : State} (h : OnlyLineAndSelection l s t) : t.tables = s.tables :=
  (congrArg State.tables h.2 :)

theorem OnlyLineAndSelection.tablesKept {l : LineNo} {s t : State} (h : OnlyLineAndSelection l s t) : TablesKept s t :=
  .of_tables h.tables

/-- An operation of each line of a list keeps the tables where it does so of one line. -/
theorem forLines_tables (ls : List LineNo) (f : State → LineNo → State) (s : State)
    (each : ∀ t l, (f t l).tables = t.tables) : (s.forLines ls f).tables = s.tables :=
  State.forLines_induct (fun t => t.tables = s.tables) f ls s rfl fun t l _ h => (each t l).trans h

/-! ### The slip log (R156) -/

theorem consecutiveFrom_append (n : Nat) (rs : List Record) (r : Record) :
    consecutiveFrom n (rs ++ [r]) ↔ consecutiveFrom n rs ∧ r.sequence = (n + rs.length) % 65536 := by
  induction rs generalizing n with
  | nil => simp [consecutiveFrom]
  | cons q rs ih =>
    rw [List.cons_append, consecutiveFrom, consecutiveFrom, ih, and_assoc, List.length_cons,
      show n + 1 + rs.length = n + (rs.length + 1) by omega]

theorem consecutiveFrom_drop_one (n : Nat) (rs : List Record) (h : consecutiveFrom n rs) :
    consecutiveFrom (n + 1) (rs.drop 1) := by
  cases rs with
  | nil => trivial
  | cons q rs => exact h.2

/-- Only the number modulo 65536 at which a sequence begins counts. -/
theorem consecutiveFrom_congr (m n : Nat) (rs : List Record) (same : m % 65536 = n % 65536) :
    consecutiveFrom m rs ↔ consecutiveFrom n rs := by
  induction rs generalizing m n with
  | nil => exact Iff.rfl
  | cons q rs ih =>
    have next : (m + 1) % 65536 = (n + 1) % 65536 := by omega
    rw [consecutiveFrom, consecutiveFrom, same, ih _ _ next]

theorem Log.add_sound (g : Log) (kind : RecordKind) (line : LineNo) (epoch before after grade : Nat) (h : LogSound g) :
    LogSound (g.add kind line epoch before after grade) := by
  obtain ⟨size, next, sequences, overwrites⟩ := h
  have newest : ∀ m, m + g.records.length = g.next + 65536 → g.next = (m + g.records.length) % 65536 := by omega
  unfold Log.add
  dsimp only
  split
  case isTrue room =>
    refine ⟨by simp; omega, by dsimp only; omega, ?_, overwrites⟩
    refine (consecutiveFrom_congr _ (g.next + 65536 - g.records.length) _ (by simp; omega)).mpr ?_
    exact (consecutiveFrom_append _ _ _).mpr ⟨sequences, newest _ (by omega)⟩
  case isFalse full =>
    have length : (g.records.drop 1).length = 63 := by simp; omega
    refine ⟨by simp; omega, by dsimp only; omega, ?_, ?_⟩
    · refine (consecutiveFrom_congr _ (g.next + 65536 - g.records.length + 1) _ (by simp; omega)).mpr ?_
      refine (consecutiveFrom_append _ _ _).mpr ⟨consecutiveFrom_drop_one _ _ sequences, ?_⟩
      rw [length]
      dsimp only
      omega
    · dsimp only
      rw [bump_spec 255 _ overwrites]
      omega

/-! ### The transmit path (R106, R107, R116) -/

/-- The bulletin in flight keeps the silence under DUPLICATE (R116). -/
def Silent (duplicate : Bool) (flight : Option Flight) : Prop :=
  duplicate = true → ∀ f, flight = some f → f.slot ≠ .report → f.phase = .sending

theorem silent_none (d : Bool) : Silent d none := nofun

/-- What differs between `s` and `t`, of all that the invariant reads, is the REPORT slots and the bulletin in flight. -/
def OnlyTransmit (s t : State) : Prop :=
  { t.tables with bus := { t.tables.bus with reports := s.bus.reports, flight := s.bus.flight } } = s.tables

theorem TablesKept.of_transmit {s t : State} (only : OnlyTransmit s t)
    (reports : s.bus.reports.length ≤ 4 → t.bus.reports.length ≤ 4)
    (silent : Silent s.duplicate s.bus.flight → Silent s.duplicate t.bus.flight) : TablesKept s t := by
  have log : t.log = s.log := (congrArg State.log only :)
  have duplicate : t.duplicate = s.duplicate := (congrArg State.duplicate only :)
  refine ⟨fun h => log ▸ h, fun h => ?_⟩
  have base : BusSound { t.tables with bus := { t.tables.bus with reports := s.bus.reports, flight := s.bus.flight } } :=
    only.symm ▸ (busSound_tables s).mpr h
  exact ⟨base.queue, reports h.reports, base.own, base.sources, duplicate.symm ▸ silent h.silent, base.held, base.loading⟩

theorem pick_silent (s : State) (h : Silent s.duplicate s.bus.flight) : Silent s.duplicate (pick s).bus.flight := by
  rw [pick_spec]
  dsimp only
  split
  · intro d f flight other
    obtain ⟨k, next, rfl⟩ := Option.map_eq_some_iff.mp flight
    exact absurd ((nextSlot_sound _ _ _ next).1 d) other
  · exact h

theorem pick_tablesKept (s : State) : TablesKept s (pick s) :=
  .of_transmit (by rw [pick_spec]; rfl) (by simp) (pick_silent s)

/-- A change of the bus interface that leaves the REPORT slots, the flight and the frame in reception. -/
theorem onBus_tables (s : State) (f : Bus → Bus) (reports : (f s.bus).reports = s.bus.reports)
    (flight : (f s.bus).flight = s.bus.flight) (frame : (f s.bus).frame = s.bus.frame) : (s.onBus f).tables = s.tables := by
  simp only [State.tables, State.onBus, reports, flight, frame]

theorem submitHold_tablesKept (n : Nat) (s : State) : TablesKept s (submitHold n s) := by
  unfold submitHold
  split
  · exact .refl s
  · split
    · exact .of_tables rfl
    · exact TablesKept.next (.of_tables rfl) pick_tablesKept

theorem submitTiming_tablesKept (x : Bulletin) (s : State) : TablesKept s (submitTiming x s) := by
  unfold submitTiming
  split
  · exact .refl s
  · next taken =>
    split
    · split
      · exact .refl s
      · refine .of_transmit rfl id fun _ d => ?_
        simp [State.takesTimings, d] at taken
    · exact TablesKept.next (.of_tables rfl) pick_tablesKept

theorem submitIntro_tablesKept (x : Bulletin) (s : State) : TablesKept s (submitIntro x s) := by
  unfold submitIntro
  split
  · exact .refl s
  · exact TablesKept.next (.of_tables rfl) pick_tablesKept

theorem submitReport_tablesKept (x : Bulletin) (s : State) : TablesKept s (submitReport x s) := by
  unfold submitReport
  split
  · exact .refl s
  · next room =>
    refine TablesKept.next (.of_transmit rfl (fun _ => ?_) id) pick_tablesKept
    simp at room
    simp [State.onBus]
    omega

theorem submitDeferred_tablesKept (s : State) : TablesKept s (submitDeferred s) := by
  unfold submitDeferred
  split
  · exact .refl s
  · exact TablesKept.next (.of_tables rfl) (submitHold_tablesKept _)

theorem Bus.emptied_reports_length (b : Bus) (k : Slot) : (b.emptied k).reports.length ≤ b.reports.length := by
  cases k <;> simp [Bus.emptied]

theorem Bus.emptied_frame (b : Bus) (k : Slot) : (b.emptied k).frame = b.frame := by cases k <;> rfl

theorem endFlight_tablesKept (f : Flight) (s : State) : TablesKept s (endFlight f s) := by
  have emptied : TablesKept s (s.onBus fun b => { b.emptied f.slot with flight := none }) := by
    refine .of_transmit ?_ (fun h => ?_) fun _ => silent_none _
    · simp [OnlyTransmit, State.tables, State.onBus, Bus.emptied_frame]
    · exact (Bus.emptied_reports_length s.bus f.slot).trans h
  unfold endFlight
  dsimp only
  split
  · exact emptied.trans (submitDeferred_tablesKept _)
  · exact emptied

/-- The bulletin in flight changed without leaving its slot; it may only go to SENDING, or from no other phase than it stood in. -/
theorem flight_tablesKept {s : State} {f g : Flight} {b : Bus → Bus} (flight : s.bus.flight = some f)
    (flies : (b s.bus).flight = some g) (reports : (b s.bus).reports = s.bus.reports)
    (frame : (b s.bus).frame = s.bus.frame) (slot : g.slot = f.slot)
    (phase : g.phase = .sending ∨ g.phase = f.phase ∨ g.slot = .report ∨ s.duplicate = false
      ∨ f.phase ≠ .sending) : TablesKept s (s.onBus b) := by
  refine .of_transmit ?_ (fun h => by simpa [State.onBus, reports] using h) fun h d k hk other => ?_
  · simp [OnlyTransmit, State.tables, State.onBus, reports, frame]
  · obtain rfl : g = k := by simpa [State.onBus, flies] using hk
    have before : f.phase = .sending := h d f flight (slot ▸ other)
    rcases phase with h | h | h | h | h
    · exact h
    · rw [h, before]
    · exact absurd h other
    · simp [d] at h
    · exact absurd before h

theorem judgeEcho_tables (good : Bool) (s : State) : (judgeEcho good s).tables = s.tables := by
  unfold judgeEcho
  dsimp only
  split
  · rfl
  · split <;> rfl

theorem echoAtRelease_tables (s : State) : (echoAtRelease s).tables = s.tables := by
  unfold echoAtRelease
  split
  · exact judgeEcho_tables _ _
  · split
    · split
      · rfl
      · exact judgeEcho_tables _ _
    · exact judgeEcho_tables _ _

theorem collide_tablesKept (f : Flight) (s : State) (flight : s.bus.flight = some f) : TablesKept s (collide f s) := by
  unfold collide
  dsimp only
  have spent : TablesKept s (s.onBus fun b => { b with echoResult := none }) := .of_tables rfl
  split
  · exact (spent.next (endFlight_tablesKept f)).next pick_tablesKept
  · split
    · exact ((spent.next (f := contentionDrop) fun _ => .of_tables rfl).next (endFlight_tablesKept f)).next pick_tablesKept
    · split
      · exact (spent.next (endFlight_tablesKept f)).next pick_tablesKept
      · next loud =>
        refine spent.trans (flight_tablesKept (f := f) flight rfl rfl rfl rfl ?_)
        cases d : s.duplicate
        · exact .inr (.inr (.inr (.inl d)))
        · exact .inr (.inr (.inl (by simpa [State.onBus, d] using loud)))

theorem jabberCut_tablesKept (s : State) : TablesKept s (jabberCut s) := by
  unfold jabberCut
  dsimp only
  split
  · exact TablesKept.next (.of_tables rfl) (endFlight_tablesKept _)
  · exact .of_tables rfl

/-! ### DUPLICATE (R116, R152) -/

theorem Bus.silenced_silent (b : Bus) : Silent true b.silenced.flight := by
  intro _ f flight other
  by_cases report : b.flying .report = true
  · simp only [Bus.silenced, report, if_true] at flight
    simp [Bus.flying, flight, other] at report
  · simp only [Bus.silenced, report] at flight
    simpa using (Option.filter_eq_some_iff.mp flight).2

theorem assertDuplicate_tablesKept (s : State) : TablesKept s (assertDuplicate s) := by
  unfold assertDuplicate
  split
  · exact .refl s
  · refine TablesKept.next ⟨id, fun h => ?_⟩ pick_tablesKept
    exact ⟨h.queue, h.reports, h.own, h.sources, fun _ => s.bus.silenced_silent rfl, h.held, h.loading⟩

/-! ### The receive queue (R122, R125) -/

theorem enqueue_tablesKept (e : RxEntry) (s : State) (out : s.inReset = true → False)
    (source : kindOf e.octets ≤ 3 → sourceOf e.octets ≠ s.number ∧ sourceOf e.octets < 12) : TablesKept s (enqueue e s) := by
  unfold enqueue
  split
  · next room =>
    refine ⟨id, fun h => ⟨?_, h.reports, h.own, ?_, h.silent, fun reset => (out reset).elim, h.loading⟩⟩
    · simp; omega
    · intro q member
      rcases List.mem_append.mp member with old | new
      · exact h.sources q old
      · obtain rfl := List.mem_singleton.mp new
        exact source
  · exact .of_tables rfl

theorem popped_tablesKept (s : State) : TablesKept s s.popped := by
  refine ⟨id, fun h => ⟨?_, h.reports, h.own, fun e member => h.sources e (List.mem_of_mem_drop member), h.silent, ?_,
    h.loading⟩⟩
  · have := h.queue
    simp
    omega
  · intro reset
    obtain ⟨queue, waiting, loading, absent⟩ := h.held reset
    exact ⟨by simp [queue], waiting, loading, absent⟩

/-- What sorting queues for the peer table comes from another retimer (R122). -/
theorem sortBulletin_queued (number : Nat) (octets : List Octet) (queued : sortBulletin number octets = .queued)
    (kind : kindOf octets ≤ 3) : sourceOf octets ≠ number ∧ sourceOf octets < 12 := by
  unfold sortBulletin at queued
  simp only [kind, if_true] at queued
  split at queued
  · cases queued
  · split at queued
    · cases queued
    · omega

theorem takeFrame_tablesKept (good : Bool) (f : RxFrame) (s : State) (out : s.inReset = true → False) :
    TablesKept s (takeFrame good f s) := by
  unfold takeFrame
  split
  · exact .of_tables rfl
  · exact .of_tables rfl
  · exact .of_tables rfl
  · split
    · next queued => exact enqueue_tablesKept _ s out (sortBulletin_queued _ _ queued)
    · exact assertDuplicate_tablesKept s
    · exact .of_tables rfl
    · exact .refl s

theorem takeEcho_tables (good : Bool) (s : State) : (takeEcho good s).tables = s.tables := by
  unfold takeEcho
  split
  · exact judgeEcho_tables _ _
  · rfl

theorem noFrame_tablesKept (s : State) : TablesKept s (s.onBus fun b => { b with frame := none }) :=
  ⟨id, fun h => ⟨h.queue, h.reports, h.own, h.sources, h.silent, h.held, fun _ => rfl⟩⟩

theorem frameEnded_tablesKept (f : RxFrame) (good : Bool) (s : State) (out : s.inReset = true → False) :
    TablesKept s (frameEnded f good s) := by
  unfold frameEnded
  dsimp only
  split
  · exact (noFrame_tablesKept s).trans (.of_tables (takeEcho_tables _ _))
  · exact (noFrame_tablesKept s).trans (takeFrame_tablesKept _ _ _ out)

/-- A frame in reception shows a part out of reset. -/
theorem BusSound.out_of_frame {s : State} {f : RxFrame} (h : BusSound s) (frame : s.bus.frame = some f) :
    s.inReset = true → False := fun reset => by
  have none := h.loading (h.held reset).2.2.1
  rw [frame] at none
  cases none

/-- So does a floor outside LOADING. -/
theorem BusSound.out_of_running {s : State} (h : BusSound s) (running : s.running = true) : s.inReset = true → False :=
  fun reset => by simp [State.running, (h.held reset).2.2.1] at running

end Sys2Proof.Machine
end

section
/-! Every step keeps the slip log and the tables sound: the commands one by one, then the idle step. -/

namespace Sys2Proof.Machine

/-! ### Lines (01, 02, 03) -/

theorem testDegraded_tables (s : State) (l : LineNo) : (testDegraded s l).tables = s.tables := by
  unfold testDegraded
  dsimp only
  split
  · split
    · rfl
    · exact (raise_frame _ l s).tables
  · exact (release_frame _ l s).tables

/-- A release that a test makes after its run is written. -/
theorem onMon_release_tables (c : LineCond) (l : LineNo) (f : Monitor → Monitor) (s : State) :
    (release c l (s.onMon l f)).tables = s.tables := (release_frame c l _).tables

theorem testWander_tables (s : State) (l : LineNo) : (testWander s l).tables = s.tables := by
  unfold testWander
  dsimp only
  split
  · split
    · split
      · rfl
      · exact (raise_frame .wander l s).tables
    · split
      · split
        · exact onMon_release_tables _ l _ s
        · rfl
      · rfl
  · rfl

theorem testDiverge_tables (d : Option Int) (s : State) (l : LineNo) : (testDiverge d s l).tables = s.tables := by
  unfold testDiverge
  dsimp only
  split
  · split
    · split
      · rfl
      · exact (raise_frame .diverge l s).tables
    · split
      · split
        · exact onMon_release_tables _ l _ s
        · rfl
      · rfl
  · rfl

theorem testCrosscheck_tables (s : State) (l : LineNo) : (testCrosscheck s l).tables = s.tables := by
  unfold testCrosscheck
  dsimp only
  split
  · split
    · split
      · split
        · exact onMon_release_tables _ l _ s
        · rfl
      · rfl
    · rfl
  · rfl

theorem testLine_tables (d : Option Int) (s : State) (l : LineNo) : (testLine d s l).tables = s.tables :=
  ((testCrosscheck_tables _ l).trans (testDiverge_tables d _ l)).trans (testWander_tables s l)

theorem monitorWork_tables (s : State) : (monitorWork s).tables = s.tables := by
  have degraded := forLines_tables s.enabledLines testDegraded s testDegraded_tables
  unfold monitorWork
  dsimp only
  generalize s.forLines s.enabledLines testDegraded = a at degraded ⊢
  have tested := forLines_tables a.enabledLines (testLine (referenceDrift a)) a (testLine_tables _)
  generalize a.forLines a.enabledLines (testLine (referenceDrift a)) = b at tested ⊢
  have kept := forLines_tables b.enabledLines keepDrift b fun _ _ => rfl
  generalize b.forLines b.enabledLines keepDrift = c at kept ⊢
  have counted := forLines_tables c.enabledLines
    (fun t l => t.onMon l fun m => m.countDown (s.line l).mon.otherwise) c fun _ _ => rfl
  exact ((counted.trans kept).trans tested).trans degraded

theorem takeVerdict_tables (v : Option LineNo) (s : State) (l : LineNo) : (takeVerdict v s l).tables = s.tables := by
  unfold takeVerdict
  dsimp only
  split
  · split
    · exact (raise_frame .crosscheck l _).tables
    · rfl
  · rfl

theorem closeSlips_tables (l : LineNo) (s : State) : (closeSlips l s).tables = s.tables := by
  unfold closeSlips
  dsimp only
  split
  · exact (release_frame .excess l s).tables
  · rfl

theorem excessTest_tables (l : LineNo) (d : Decision) (s : State) : (excessTest l d s).tables = s.tables := by
  unfold excessTest
  split
  · exact (raise_frame .excess l s).tables
  · rfl

theorem logDecision_tablesKept (l : LineNo) (d : Decision) (t : Store) (s : State) : TablesKept s (logDecision l d t s) := by
  unfold logDecision
  split
  · exact .refl s
  · exact ⟨Log.add_sound _ _ _ _ _ _ _, fun h => ⟨h.queue, h.reports, h.own, h.sources, h.silent, h.held, h.loading⟩⟩

theorem decideSlip_tablesKept (l : LineNo) (s : State) : TablesKept s (decideSlip l s) := by
  have stored : ∀ f, TablesKept s (s.onStore l f) := fun _ => .of_tables rfl
  exact ((stored _).next (logDecision_tablesKept l _ _)).next fun u => .of_tables (excessTest_tables l _ u)

theorem handOver_tables (l : LineNo) (s : State) : (handOver l s).tables = s.tables := rfl

theorem readMarkEnabled_tablesKept (l : LineNo) (s : State) : TablesKept s (readMarkEnabled l s) := by
  have after : ∀ u, TablesKept u ((handOver l (decideSlip l u)).onStore l fun t => { t with n := t.n + 1 }) := fun u =>
    ((decideSlip_tablesKept l u).trans (.of_tables (handOver_tables l _))).trans (.of_tables rfl)
  unfold readMarkEnabled
  dsimp only
  split
  · exact (TablesKept.of_tables (closeSlips_tables l s)).trans (after _)
  · exact after s

theorem execReadMark_tablesKept (l : LineNo) (s t : State) (h : execReadMark l s = .next t) : TablesKept s t := by
  obtain rfl := Host.Outcome.next.inj h
  dsimp only
  split
  · exact .of_tables rfl
  · split
    · exact TablesKept.next (.of_tables rfl) (readMarkEnabled_tablesKept l)
    · exact .of_tables rfl

/-! ### The floor clock unit (04, 05) -/

/-- The floor's state may change outside LOADING, where the part is out of reset. -/
theorem TablesKept.of_running {s t : State} (before : s.floor.state ≠ .loading) (after : t.floor.state ≠ .loading)
    (same : { t.tables with floor := { t.tables.floor with state := s.floor.state } } = s.tables) : TablesKept s t := by
  have log : t.log = s.log := (congrArg State.log same :)
  refine ⟨fun h => log ▸ h, fun h => ?_⟩
  have base := (same.symm ▸ (busSound_tables s).mpr h : BusSound
    { t.tables with floor := { t.tables.floor with state := s.floor.state } })
  refine ⟨base.queue, base.reports, base.own, base.sources, base.silent, fun reset => ?_, fun loading => absurd loading after⟩
  exact absurd (base.held reset).2.2.1 before

theorem lockStep_state (u : Setup) (jump : Bool) (e : Option Int) (f : Floor) : (lockStep u jump e f).state ≠ .loading := by
  unfold lockStep
  split
  · next track =>
    split
    · split <;> simp [track]
    · simp [track]
  · split
    · split <;> simp
    · simp

theorem submitHold_floor (n : Nat) (s : State) : (submitHold n s).floor = s.floor :=
  (congrArg State.floor (submitHold_frame n s).1 :)

theorem setOwnHold_tablesKept (s : State) : TablesKept s (setOwnHold s) :=
  TablesKept.next (f := submitHold s.setup.holdEpochs) (.of_tables rfl) (submitHold_tablesKept _)

theorem setOwnHold_floor (s : State) : (setOwnHold s).floor = s.floor := submitHold_floor _ _

theorem roleStep_tablesKept (lead : Role × Nat) (line : Option LineNo) (phase : Option Nat) (s : State) :
    TablesKept s (roleStep lead line phase s) := by
  unfold roleStep
  dsimp only
  split
  · exact TablesKept.next (.of_tables rfl) setOwnHold_tablesKept
  · exact .of_tables rfl

theorem roleStep_floorState (lead : Role × Nat) (line : Option LineNo) (phase : Option Nat) (s : State) :
    (roleStep lead line phase s).floor.state = s.floor.state := by
  unfold roleStep
  dsimp only
  split
  · rw [setOwnHold_floor]
  · rfl

theorem jumpNotice_tables (s : State) (l : LineNo) : (jumpNotice s l).tables = s.tables := by
  unfold jumpNotice
  dsimp only
  split <;> rfl

theorem jumpStep_tables (e : Int) (s : State) : (jumpStep e s).tables = s.tables :=
  forLines_tables _ jumpNotice _ jumpNotice_tables

theorem lockTested_tablesKept (ending : Bool) (s : State) (running : s.floor.state ≠ .loading) :
    TablesKept s (s.lockTested ending) :=
  (roleStep_tablesKept s.lead s.selected s.selectedPhase s).trans
    (.of_running (by rwa [roleStep_floorState]) (lockStep_state _ _ _ _) rfl)

theorem jumped_tables (ending : Bool) (s : State) : (s.jumped ending).tables = (s.lockTested ending).tables := by
  unfold State.jumped
  split
  · exact jumpStep_tables _ _
  · rfl

theorem recorded_tables (ending : Bool) (s : State) : (s.recorded ending).tables = (s.jumped ending).tables := by
  simp only [State.recorded, State.filtered]
  generalize s.jumped ending = a
  rfl

theorem compute_tablesKept (ending : Bool) (s : State) (running : s.floor.state ≠ .loading) : TablesKept s (compute ending s) := by
  have verdicts := forLines_tables (s.recorded ending).enabledLines (takeVerdict (s.over ending))
    (s.recorded ending) (takeVerdict_tables _)
  have same := (verdicts.trans (recorded_tables ending s)).trans (jumped_tables ending s)
  exact (lockTested_tablesKept ending s running).trans (.of_tables same)

theorem fallback_tablesKept (s : State) : TablesKept s (fallback s) := by
  unfold fallback
  exact TablesKept.next (.of_tables rfl) setOwnHold_tablesKept

theorem takeLostNotice_tablesKept (s : State) : TablesKept s (takeLostNotice s) := by
  unfold takeLostNotice
  dsimp only
  split
  · exact TablesKept.next (.of_tables rfl) fallback_tablesKept
  · exact .of_tables rfl

theorem fallback_floorState (s : State) : (fallback s).floor.state = s.floor.state := by
  unfold fallback
  dsimp only
  rw [setOwnHold_floor]

theorem takeLostNotice_floorState (s : State) : (takeLostNotice s).floor.state = s.floor.state := by
  unfold takeLostNotice
  dsimp only
  split
  · exact fallback_floorState _
  · rfl

theorem noticesFirst_tablesKept (s : State) : TablesKept s (noticesFirst s) := by
  unfold noticesFirst
  dsimp only
  split
  · exact (takeLostNotice_tablesKept s).trans (.of_tables rfl)
  · exact .of_tables rfl

theorem noticesFirst_floorState (s : State) : (noticesFirst s).floor.state = s.floor.state := by
  unfold noticesFirst
  dsimp only
  split
  · exact takeLostNotice_floorState s
  · rfl

/-- Ageing and handing over leave an ABSENT entry as it is (R145). -/
theorem peerEpochWork_absent (s : State) (p : PeerNo) (absent : (s.peer p).state = .absent) :
    ((peerEpochWork s).peer p).state = .absent := by
  have same : agePeer (s.peer p) = s.peer p := by simp [agePeer, absent]
  simp only [peerEpochWork, State.peer, mapPeers_get]
  rw [show agePeer (s.peers.get p) = s.peers.get p from same]
  simp [afterHandOver, show (s.peers.get p).state = .absent from absent]

theorem peerEpochWork_tablesKept (s : State) : TablesKept s (peerEpochWork s) := by
  refine ⟨id, fun h => ⟨h.queue, h.reports, fun p e => ?_, h.sources, h.silent, fun reset => ?_, h.loading⟩⟩
  · exact peerEpochWork_absent s p (h.own p e)
  · obtain ⟨queue, waiting, loading, absent⟩ := h.held reset
    exact ⟨queue, waiting, loading, fun p => peerEpochWork_absent s p (absent p)⟩

theorem epochSteps_tablesKept (s : State) (running : s.floor.state ≠ .loading) : TablesKept s (epochSteps s) := by
  unfold epochSteps
  dsimp only
  split
  · next start =>
    split
    · exact .of_tables rfl
    · have counted : TablesKept s { s with floor := { s.floor with listen := bump 4 s.floor.listen } } := .of_tables rfl
      have computed := counted.trans (compute_tablesKept true _ (by simp [start]))
      generalize compute true _ = c at computed ⊢
      exact computed.trans (.of_tables rfl)
  · exact (compute_tablesKept false s running).trans (.of_tables rfl)

theorem epochWork_tablesKept (s : State) (running : s.floor.state ≠ .loading) : TablesKept s (epochWork s) := by
  have before := (noticesFirst_tablesKept s).next peerEpochWork_tablesKept
  have steps := before.trans (epochSteps_tablesKept _ (noticesFirst_floorState s ▸ running))
  refine steps.trans (.of_tables ?_)
  have state := congrArg Floor.state (epochSteps (peerEpochWork (noticesFirst s))).floor.addFreq_frame
  simp only [epochWork, State.tables]
  rw [state]

end Sys2Proof.Machine
end

section
/-! Every step keeps the slip log and the tables sound: the bus, the bulletins, start-up, and the clockwork. -/

namespace Sys2Proof.Machine

/-! ### The bus interface (06) -/

theorem execStartDelimiter_tablesKept (s t : State) (h : execStartDelimiter s = .next t) : TablesKept s t := by
  obtain rfl := Host.Outcome.next.inj h
  split
  · next on =>
    have running : s.floor.state ≠ .loading := by
      simp only [Bool.and_eq_true, State.onBusNow, State.running, bne_iff_ne] at on
      exact on.1.1.1
    exact ⟨id, fun h => ⟨h.queue, h.reports, h.own, h.sources, h.silent, h.held, fun loading => absurd loading running⟩⟩
  · exact .refl s

theorem execInvertedDelimiter_tablesKept (s t : State) (h : execInvertedDelimiter s = .next t) : TablesKept s t := by
  obtain rfl := Host.Outcome.next.inj h
  split
  · exact .of_tables rfl
  · exact .refl s

/-- Where the log stands, the invariant of the tables may be used to show that they are kept. -/
theorem TablesKept.of_sound {s t : State} (log : t.log = s.log) (kept : BusSound s → TablesKept s t) : TablesKept s t :=
  ⟨fun h => log ▸ h, fun h => (kept h).2 h⟩

theorem assertDuplicate_log (s : State) : (assertDuplicate s).log = s.log := by
  unfold assertDuplicate
  split
  · rfl
  · rw [pick_spec]

theorem enqueue_log (e : RxEntry) (s : State) : (enqueue e s).log = s.log := by
  unfold enqueue
  split <;> rfl

theorem takeFrame_log (good : Bool) (f : RxFrame) (s : State) : (takeFrame good f s).log = s.log := by
  unfold takeFrame
  split
  · rfl
  · rfl
  · rfl
  · split
    · exact enqueue_log _ s
    · exact assertDuplicate_log s
    · rfl
    · rfl

theorem frameEnded_log (f : RxFrame) (good : Bool) (s : State) : (frameEnded f good s).log = s.log := by
  unfold frameEnded
  dsimp only
  split
  · exact (congrArg State.log (takeEcho_tables _ (s.onBus fun b => { b with frame := none })) :)
  · exact takeFrame_log _ _ _

theorem execFrameEnd_tablesKept (samples : List (Bool × Bool)) (s t : State) (h : execFrameEnd samples s = .next t) :
    TablesKept s t := by
  obtain rfl := Host.Outcome.next.inj h
  split
  · exact .refl s
  · next f frame =>
    split
    · next g _ =>
      refine .of_sound rfl fun sound => ⟨id, fun _ => ?_⟩
      exact ⟨sound.queue, sound.reports, sound.own, sound.sources, sound.silent, sound.held,
        fun loading => by simp [sound.loading loading] at frame⟩
    · next g good long _ =>
      refine .of_sound (frameEnded_log _ _ _) fun sound => ?_
      have out := sound.out_of_frame frame
      have ignoring : TablesKept s (s.onBus fun b => { b with ignoring := b.ignoring || long }) := .of_tables rfl
      exact ignoring.trans (frameEnded_tablesKept g good _ out)

theorem execCarrierIdle_tablesKept (s t : State) (h : execCarrierIdle s = .next t) : TablesKept s t := by
  obtain rfl := Host.Outcome.next.inj h
  split
  · split
    · next f frame =>
      refine .of_sound (frameEnded_log _ _ _) fun sound => ?_
      have out := sound.out_of_frame frame
      have idle : TablesKept s
          (s.onBus fun b => { b with quiet := max Config.idleQuiet b.quiet, busy := false, ignoring := false }) := .of_tables rfl
      exact idle.trans (frameEnded_tablesKept f false _ out)
    · exact .of_tables rfl
  · exact .refl s

theorem execLaunch_tablesKept (s t : State) (h : execLaunch s = .next t) : TablesKept s t := by
  obtain rfl := Host.Outcome.next.inj h
  split
  · next f flight =>
    split
    · exact flight_tablesKept flight rfl rfl rfl rfl (.inl rfl)
    · exact .refl s
  · exact .refl s

theorem execTransmissionRelease_tablesKept (s t : State) (h : execTransmissionRelease s = .next t) : TablesKept s t := by
  obtain rfl := Host.Outcome.next.inj h
  split
  · next f flight =>
    split
    · have echo : TablesKept s ((echoAtRelease s).onBus fun b => { b with quiet := 0, busy := true }) :=
        (TablesKept.of_tables (echoAtRelease_tables s)).trans (.of_tables rfl)
      exact (echo.next (endFlight_tablesKept f)).next pick_tablesKept
    · exact .refl s
  · exact .refl s

theorem execCollision_tablesKept (s t : State) (h : execCollision s = .next t) : TablesKept s t := by
  obtain rfl := Host.Outcome.next.inj h
  split
  · next f flight =>
    split
    · exact collide_tablesKept f s flight
    · exact .refl s
  · exact .refl s

theorem execBackoffExpiry_tablesKept (s t : State) (h : execBackoffExpiry s = .next t) : TablesKept s t := by
  obtain rfl := Host.Outcome.next.inj h
  split
  · next f flight =>
    split
    · next backoff =>
      exact flight_tablesKept flight rfl rfl rfl rfl (.inr (.inr (.inr (.inr (by simp [backoff])))))
    · exact .refl s
  · exact .refl s

theorem execJabberCutoff_tablesKept (s t : State) (h : execJabberCutoff s = .next t) : TablesKept s t := by
  obtain rfl := Host.Outcome.next.inj h
  split
  · exact jabberCut_tablesKept s
  · exact .refl s

theorem execJabberReexamination_tablesKept (s t : State) (h : execJabberReexamination s = .next t) : TablesKept s t := by
  obtain rfl := Host.Outcome.next.inj h
  dsimp only
  split
  · exact TablesKept.next (.of_tables rfl) pick_tablesKept
  · exact .of_tables rfl

/-! ### The bulletin unit (07, 08, 09) -/

theorem headOfKind_eq_some {s : State} {k : Nat} {q : RxEntry} (h : headOfKind s k = some q) :
    s.running = true ∧ q ∈ s.queue ∧ kindOf q.octets = k := by
  obtain ⟨served, kind⟩ := Option.filter_eq_some_iff.mp h
  obtain ⟨running, -, -, head⟩ := (servable_eq_some s q).mp served
  exact ⟨running, List.mem_of_mem_head? head, by simpa using kind⟩

/-- A head served for the peer table is at a position other than the station's own (R122, R139). -/
theorem BusSound.peerOf_ne {s : State} {q : RxEntry} (h : BusSound s) (member : q ∈ s.queue) (kind : kindOf q.octets ≤ 3)
    (p : PeerNo) (own : p.val = s.number) : p ≠ peerOf (sourceOf q.octets) := by
  obtain ⟨other, small⟩ := h.sources q member kind
  intro same
  apply other
  rw [← own, same]
  exact (Nat.mod_eq_of_lt small).symm

theorem latchProfile_tables (before : Vector Peer 12) (s : State) : (latchProfile before s).tables = s.tables := by
  rw [latchProfile_spec]
  rfl

/-- An entry is written at the position of a bulletin that is served. -/
theorem setPeer_tablesKept {s : State} {q : RxEntry} {k : Nat} (served : headOfKind s k = some q) (small : k ≤ 3) (e : Peer) :
    TablesKept s (s.popped.setPeer (peerOf (sourceOf q.octets)) e) := by
  obtain ⟨running, member, kind⟩ := headOfKind_eq_some served
  refine .of_sound rfl fun sound => ⟨id, fun _ => ?_⟩
  have base := (popped_tablesKept s).2 sound
  refine ⟨base.queue, base.reports, fun p own => ?_, base.sources, base.silent, fun reset => ?_, base.loading⟩
  · rw [State.peer_setPeer, if_neg (sound.peerOf_ne member (kind ▸ small) p own)]
    exact sound.own p own
  · exact (sound.out_of_running running reset).elim

theorem putPeer_tablesKept {s : State} {q : RxEntry} {k : Nat} (served : headOfKind s k = some q) (small : k ≤ 3) (e : Peer) :
    TablesKept s (s.popped.putPeer (peerOf (sourceOf q.octets)) e) :=
  (setPeer_tablesKept served small e).trans (.of_tables (latchProfile_tables _ _))

theorem execServeTiming_tablesKept (s t : State) (h : execServeTiming s = .next t) : TablesKept s t := by
  obtain rfl := Host.Outcome.next.inj h
  split
  · exact .refl s
  · next served => exact putPeer_tablesKept served (by omega) _

theorem execServeIntro_tablesKept (s t : State) (h : execServeIntro s = .next t) : TablesKept s t := by
  obtain rfl := Host.Outcome.next.inj h
  split
  · exact .refl s
  · next served =>
    dsimp only
    split
    · exact (putPeer_tablesKept served (by omega) _).next (submitIntro_tablesKept _)
    · exact putPeer_tablesKept served (by omega) _

theorem execServeHold_tablesKept (s t : State) (h : execServeHold s = .next t) : TablesKept s t := by
  obtain rfl := Host.Outcome.next.inj h
  split
  · exact .refl s
  · next served => exact setPeer_tablesKept served (by omega) _

theorem serveInquiry_tablesKept (p : Nat → Bool) (s : State) : TablesKept s (serveInquiry p s) := by
  unfold serveInquiry
  split
  · exact .refl s
  · split
    · exact (popped_tablesKept s).trans (.of_tables rfl)
    · exact .of_tables rfl

theorem execReportSubmission_tablesKept (s t : State) (h : execReportSubmission s = .next t) : TablesKept s t := by
  obtain rfl := Host.Outcome.next.inj h
  have taken : TablesKept s (s.took .reportSubmission) := .of_tables rfl
  split
  · have popped : TablesKept s
        { (s.took .reportSubmission).popped with service := none, inquiryDropped := false } :=
      (taken.trans (popped_tablesKept _)).trans (.of_tables rfl)
    exact popped.next (submitReport_tablesKept _)
  · exact taken

theorem clearFlags_tables (s : State) : (clearFlags s).tables = s.tables :=
  forLines_tables s.enabledLines clearLine s fun _ _ => rfl

theorem execClear_tablesKept (s t : State) (h : execClear s = .next t) : TablesKept s t := by
  obtain rfl := Host.Outcome.next.inj h
  split
  · exact .refl s
  · exact (popped_tablesKept s).trans (.of_tables (clearFlags_tables _))

theorem execBulletinMark_tablesKept (s t : State) (h : execBulletinMark s = .next t) : TablesKept s t := by
  obtain rfl := Host.Outcome.next.inj h
  have taken : TablesKept s (s.took .bulletinMark) := .of_tables rfl
  dsimp only
  split
  · exact taken.next (submitIntro_tablesKept _)
  · split
    · unfold sendTiming
      exact TablesKept.next (f := submitTiming _) (.of_tables rfl) (submitTiming_tablesKept _)
    · exact taken

/-! ### Start-up (10) -/

theorem resetPart_tablesKept (s : State) : TablesKept s (resetPart s) := by
  refine ⟨fun _ => ⟨Nat.zero_le _, Nat.zero_lt_succ _, trivial, Nat.zero_le _⟩, fun _ => ?_⟩
  have absent : ∀ p, ((resetPart s).peer p).state = .absent := fun p => by
    simp [State.peer, resetPart, State.reset, Vector.get_eq_getElem]
  exact ⟨Nat.zero_le _, Nat.zero_le _, fun p _ => absent p, nofun, nofun, fun _ => ⟨rfl, rfl, rfl, absent⟩, fun _ => rfl⟩

theorem execResetPinRelease_tablesKept (k : BitVec 4) (s t : State) (h : execResetPinRelease k s = .next t) :
    TablesKept s t := by
  obtain rfl := Host.Outcome.next.inj h
  split
  · next reset =>
    refine .of_sound rfl fun sound => ⟨id, fun _ => ?_⟩
    obtain ⟨queue, waiting, loading, absent⟩ := sound.held reset
    exact ⟨sound.queue, sound.reports, fun p _ => absent p, by simp [queue], sound.silent, nofun, sound.loading⟩
  · exact .refl s

theorem handOverStart_tablesKept (img : List Octet) (s : State) (out : s.inReset = false) :
    TablesKept s (handOverStart img s) := by
  unfold handOverStart
  dsimp only
  have lines := fun t => forLines_tables allLines startLine t fun _ _ => rfl
  have configured : TablesKept s { s with
      setup := configured img, loader := { s.loader with phase := .done, buffer := img, bits := [] }
      flags := { s.flags with config := s.flags.config || !signatureGood img } } := .of_tables rfl
  refine (configured.trans (.of_tables (lines _))).trans ?_
  have reset := (congrArg State.inReset (lines { s with
      setup := Machine.configured img, loader := { s.loader with phase := .done, buffer := img, bits := [] }
      flags := { s.flags with config := s.flags.config || !signatureGood img } }) :)
  generalize State.forLines _ allLines startLine = a at reset ⊢
  refine ⟨id, fun h => ⟨h.queue, h.reports, h.own, h.sources, h.silent, fun held => ?_, nofun⟩⟩
  exact absurd (held.symm.trans (reset.trans out)) (by decide)

theorem execHandOverIntoStart_tablesKept (octets : List Octet) (s t : State) (h : execHandOverIntoStart octets s = .next t) :
    TablesKept s t := by
  obtain rfl := Host.Outcome.next.inj h
  split
  · next reading =>
    dsimp only
    split
    · refine handOverStart_tablesKept _ s ?_
      simp only [Bool.and_eq_true, Bool.not_eq_true'] at reading
      exact reading.1
    · exact .of_tables rfl
  · exact .refl s

theorem Bus.restarted_reports_length (b : Bus) : b.restarted.reports.length ≤ b.reports.length := by
  simp only [Bus.restarted]
  split <;> simp

/-- A soft restart empties the queue and the peer table and ends DUPLICATE; a bulletin in flight it leaves is in SENDING. -/
theorem softRestart_tablesKept (behind : List RxEntry) (n : Nat) (s : State) (running : s.running = true) :
    TablesKept s (softRestart behind n s) := by
  have lines := forLines_tables s.enabledLines restartLine s fun _ _ => rfl
  unfold softRestart
  dsimp only
  generalize s.forLines s.enabledLines restartLine = a at lines ⊢
  have log : a.log = s.log := (congrArg State.log lines :)
  have reset : a.inReset = s.inReset := (congrArg State.inReset lines :)
  have reports : a.bus.reports = s.bus.reports := (congrArg (fun t => t.bus.reports) lines :)
  refine .of_sound log fun sound => ⟨fun h => log ▸ h, fun _ => ?_⟩
  have absent : ∀ p : PeerNo, ((Vector.replicate 12 ({} : Peer)).get p).state = .absent := by simp [Vector.get_eq_getElem]
  refine ⟨Nat.zero_le _, ?_, fun p _ => absent p, nofun, nofun, fun held => ?_, nofun⟩
  · exact (Bus.restarted_reports_length a.bus).trans (reports ▸ sound.reports)
  · exact (sound.out_of_running running (reset ▸ held)).elim

theorem execRestart_tablesKept (s t : State) (h : execRestart s = .next t) : TablesKept s t := by
  rcases execRestart_cases s with ⟨serves, -, e⟩ | ⟨-, ⟨q, served, e⟩ | ⟨-, e⟩⟩ <;>
    obtain rfl := Host.Outcome.next.inj (e.symm.trans h)
  · refine softRestart_tablesKept _ _ s ?_
    simp only [State.serves, Bool.and_eq_true] at serves
    exact serves.1
  · exact softRestart_tablesKept _ _ s (headOfKind_eq_some served).1
  · exact .refl s

/-! ### The boundary (04) -/

theorem Floor.boundary_state (f : Floor) : f.boundary.state = f.state := by
  unfold Floor.boundary
  dsimp only
  split
  · rfl
  · rw [Floor.addFreq_frame]
    rfl

theorem execFloorFrameBoundary_tablesKept (s t : State) (h : execFloorFrameBoundary s = .next t) : TablesKept s t := by
  obtain rfl := Host.Outcome.next.inj h
  refine .of_tables ?_
  dsimp only
  split
  · rfl
  · split <;> simp [State.tables, Floor.boundary_state, State.onBus]

/-! ### The commands that are left -/

theorem execMonitorEpochWork_tablesKept (s t : State) (h : execMonitorEpochWork s = .next t) : TablesKept s t := by
  obtain rfl := Host.Outcome.next.inj h
  dsimp only
  split
  · exact TablesKept.next (f := monitorWork) (.of_tables rfl) fun u => .of_tables (monitorWork_tables u)
  · exact .of_tables rfl

theorem execEpochMark_tablesKept (s t : State) (h : execEpochMark s = .next t) : TablesKept s t := by
  obtain rfl := Host.Outcome.next.inj h
  dsimp only
  have taken : TablesKept s (s.took .epochMark) := .of_tables rfl
  split
  · next running => exact taken.trans (epochWork_tablesKept _ (by simpa [State.running] using running))
  · exact taken

theorem execReceiverEpochClose_tablesKept (l : LineNo) (s t : State) (h : execReceiverEpochClose l s = .next t) :
    TablesKept s t := by
  obtain rfl := Host.Outcome.next.inj h
  split <;> exact .of_tables rfl

theorem execGradeChangeNotice_tablesKept (l : LineNo) (g : Nat) (s t : State) (h : execGradeChangeNotice l g s = .next t) :
    TablesKept s t := by
  obtain rfl := Host.Outcome.next.inj h
  dsimp only
  split <;> exact .of_tables rfl

theorem lineBits_tablesKept (b : Bool) (l : LineNo) (bits : List Bool) (s : State) :
    TablesKept s (if b then lineBits l bits s else s) := by
  split
  · exact (lineBits_frame l bits s).tablesKept
  · exact .refl s

/-- A command whose frame is one line and the selection. -/
theorem TablesKept.of_frame {o : Host.Outcome State Fault Refusal} {l : LineNo} {s t : State}
    (frame : ∃ u, o = .next u ∧ OnlyLineAndSelection l s u) (h : o = .next t) : TablesKept s t := by
  obtain ⟨u, e, only⟩ := frame
  obtain rfl := Host.Outcome.next.inj (e.symm.trans h)
  exact only.tablesKept

theorem TablesKept.of_lineFrame {o : Host.Outcome State Fault Refusal} {l : LineNo} {s t : State}
    (frame : ∃ u, o = .next u ∧ OnlyLine l s u) (h : o = .next t) : TablesKept s t :=
  .of_frame (frame.imp fun _ ⟨e, only⟩ => ⟨e, only.selection⟩) h

/-- Whatever the command, the slip log and the tables are kept sound. -/
theorem exec_tablesKept (c : Instr) (s t : State) (h : exec c s = .next t) : TablesKept s t := by
  cases c with
  | powerOn => exact Host.Outcome.next.inj h ▸ resetPart_tablesKept s
  | resetPinAssertion => exact Host.Outcome.next.inj h ▸ resetPart_tablesKept s
  | resetPinRelease k => exact execResetPinRelease_tablesKept k s t h
  | handOverIntoStart octets => exact execHandOverIntoStart_tablesKept octets s t h
  | edgeWatchExpiry l => exact .of_frame (execEdgeWatchExpiry_frame l s) h
  | firstClockEdge l b => exact .of_frame (execFirstClockEdge_frame l b s) h
  | searchTimerExpiry l bits => exact .of_frame (execSearchTimerExpiry_frame l bits s) h
  | candidateTaken l bits => exact Host.Outcome.next.inj h ▸ lineBits_tablesKept (inScan s l) l bits s
  | candidateServiceOctet l bits => exact Host.Outcome.next.inj h ▸ lineBits_tablesKept (inService s l) l bits s
  | confirmationPoint l bits => exact Host.Outcome.next.inj h ▸ lineBits_tablesKept (inCheck s l) l bits s
  | frameStartStamp l => exact .of_lineFrame (execFrameStartStamp_frame l s) h
  | alignmentWordCheck l word => exact .of_frame (execAlignmentWordCheck_frame l word s) h
  | serviceOctetDecode l o => exact .of_frame (execServiceOctetDecode_frame l o s) h
  | lineOctetWrite l o => exact .of_lineFrame (execLineOctetWrite_frame l o s) h
  | floorFrameBoundary => exact execFloorFrameBoundary_tablesKept s t h
  | readMark l => exact execReadMark_tablesKept l s t h
  | receiverEpochClose l => exact execReceiverEpochClose_tablesKept l s t h
  | monitorEpochWork => exact execMonitorEpochWork_tablesKept s t h
  | epochMark => exact execEpochMark_tablesKept s t h
  | bulletinMark => exact execBulletinMark_tablesKept s t h
  | selectionLostNotice l => exact Host.Outcome.next.inj h ▸ takeLostNotice_tablesKept s
  | gradeChangeNotice l g => exact execGradeChangeNotice_tablesKept l g s t h
  | startDelimiter => exact execStartDelimiter_tablesKept s t h
  | invertedDelimiter => exact execInvertedDelimiter_tablesKept s t h
  | frameEnd samples => exact execFrameEnd_tablesKept samples s t h
  | carrierIdle => exact execCarrierIdle_tablesKept s t h
  | launch => exact execLaunch_tablesKept s t h
  | transmissionRelease => exact execTransmissionRelease_tablesKept s t h
  | collision => exact execCollision_tablesKept s t h
  | backoffExpiry => exact execBackoffExpiry_tablesKept s t h
  | jabberCutoff => exact execJabberCutoff_tablesKept s t h
  | jabberReexamination => exact execJabberReexamination_tablesKept s t h
  | serveTiming => exact execServeTiming_tablesKept s t h
  | serveIntro => exact execServeIntro_tablesKept s t h
  | serveHold => exact execServeHold_tablesKept s t h
  | inquiryLog => exact Host.Outcome.next.inj h ▸ serveInquiry_tablesKept _ s
  | inquiryLines => exact Host.Outcome.next.inj h ▸ serveInquiry_tablesKept _ s
  | inquiryPeers => exact Host.Outcome.next.inj h ▸ serveInquiry_tablesKept _ s
  | inquiryStation => exact Host.Outcome.next.inj h ▸ serveInquiry_tablesKept _ s
  | inquiryUnknownSubject => exact Host.Outcome.next.inj h ▸ serveInquiry_tablesKept _ s
  | reportSubmission => exact execReportSubmission_tablesKept s t h
  | clear => exact execClear_tablesKept s t h
  | restart => exact execRestart_tablesKept s t h

/-! ### The idle step (log 1) -/

theorem ite_tables {p : Prop} [Decidable p] {s a b : State} (h : a.tables = s.tables) (g : b.tables = s.tables) :
    (if p then a else b).tables = s.tables := by
  split
  · exact h
  · exact g

theorem ite_tablesKept {p : Prop} [Decidable p] {s a b : State} (h : TablesKept s a) (g : TablesKept s b) :
    TablesKept s (if p then a else b) := by
  split
  · exact h
  · exact g

theorem tickLine_tables (s : State) (l : LineNo) : (tickLine s l).tables = s.tables := by
  unfold tickLine
  dsimp only
  split
  · unfold lineEdge
    dsimp only
    split <;> rfl
  · unfold watchLine
    dsimp only
    split
    · rfl
    · split <;> rfl

theorem frameBit_tables (s : State) (l : LineNo) : (frameBit l s).tables = s.tables := by
  unfold frameBit
  dsimp only
  split
  · rfl
  · split <;> rfl

theorem tickFramers_tables (s : State) : (tickFramers s).tables = s.tables := by
  unfold tickFramers
  split
  · exact forLines_tables _ _ s fun t l => frameBit_tables t l
  · rfl

theorem tickFloor_tables (s : State) : (tickFloor s).tables = s.tables := by
  obtain ⟨e, -, h⟩ | ⟨-, -, h⟩ | ⟨-, -, -, h⟩ | ⟨-, -, -, h⟩ := tickFloor_cases s <;> rw [h] <;> rfl

theorem tickLoader_tables (s : State) : (tickLoader s).tables = s.tables := by
  unfold tickLoader
  dsimp only
  split
  · rfl
  · split <;> split <;> split <;> rfl

theorem tickService_tables (s : State) : (tickService s).tables = s.tables := by
  cases h : s.service with
  | none => rw [tickService_of_none s h]
  | some b => rw [tickService_of_some s b h]; rfl

theorem tickReceive_tables (edge : Bool) (s : State) : (tickReceive edge s).tables = s.tables :=
  (congrArg State.tables (tickReceive_frame edge s) :)

theorem tickSending_tablesKept (s : State) : TablesKept s (tickSending s) := by
  by_cases sending : s.bus.sending = true
  · cases h : s.bus.flight with
    | none => simp [Bus.sending, h] at sending
    | some f =>
      have phase : f.phase = .sending := by simpa [Bus.sending, h] using sending
      obtain ⟨stop, cs, -, e, -⟩ := tickSending_spec s f h phase
      have flown : TablesKept s (s.onBus fun b => { b with flight := some { f with sent := f.sent + 1, stop := stop } }) :=
        flight_tablesKept h rfl rfl rfl rfl (.inl phase)
      exact e ▸ flown.trans (.of_tables rfl)
  · rw [tickSending_of_not_sending s (by simpa using sending)]
    exact .refl s

theorem bitTimeFlight_tablesKept (s : State) : TablesKept s (bitTimeFlight s) := by
  unfold bitTimeFlight
  split
  · next f flight =>
    split
    · have counted : TablesKept s (s.onBus fun b => { b with flight := some { f with backoff := f.backoff - 1 } }) :=
        flight_tablesKept flight rfl rfl rfl rfl (.inr (.inl rfl))
      dsimp only
      split
      · exact counted.trans (.of_tables rfl)
      · exact counted
    · split
      · exact .of_tables rfl
      · exact .refl s
  · exact .refl s

theorem bitTimeEnd_tablesKept (s : State) : TablesKept s (bitTimeEnd s) := by
  unfold bitTimeEnd
  dsimp only
  refine TablesKept.next ?_ bitTimeFlight_tablesKept
  exact .of_tables (ite_tables (Eq.trans rfl (ite_tables rfl rfl)) (ite_tables rfl rfl))

theorem tickBus_tablesKept (s : State) : TablesKept s (tickBus s) := by
  unfold tickBus
  dsimp only
  split
  · exact .refl s
  · have received := (TablesKept.of_tables (tickReceive_tables (pairEdge s) s)).next tickSending_tablesKept
    generalize tickSending (tickReceive (pairEdge s) s) = a at received ⊢
    have counted : ∀ f : Bus → Bus, (f a.bus).reports = a.bus.reports → (f a.bus).flight = a.bus.flight →
        (f a.bus).frame = a.bus.frame → TablesKept s (a.onBus f) := fun f reports flight frame =>
      received.trans (.of_tables (onBus_tables a f reports flight frame))
    exact ite_tablesKept ((counted _ rfl rfl rfl).next bitTimeEnd_tablesKept) (counted _ rfl rfl rfl)

theorem tick_tablesKept (s : State) : TablesKept s (tick s) := by
  unfold tick
  split
  · exact .refl s
  · have floor : TablesKept s (tickFloor (tickFramers s)) := .of_tables ((tickFloor_tables _).trans (tickFramers_tables s))
    generalize tickFloor (tickFramers s) = a at floor ⊢
    refine floor.trans ?_
    unfold tickInputs
    split
    · have lines : TablesKept a (a.forLines allLines tickLine) := .of_tables (forLines_tables _ _ _ tickLine_tables)
      exact (lines.next tickBus_tablesKept).next fun u => .of_tables (tickService_tables u)
    · exact .of_tables (tickLoader_tables a)

theorem idle_tablesKept (s : State) : TablesKept s (idle s) := by
  rcases idle_cases s with ⟨c, -, h⟩ | ⟨-, h⟩ <;> rw [h]
  · exact .of_tables rfl
  · exact TablesKept.next (.of_tables rfl) tick_tablesKept

/-- Settles O60: the front command by `exec_tablesKept`, the clockwork by `idle_tablesKept`. -/
theorem tablesStaySound : Obligations.TablesStaySound := by
  intro s t h
  unfold step at h
  split at h
  · next c rest _ =>
    have queued : TablesKept s { s with pending := rest } := .of_tables rfl
    exact queued.trans (exec_tablesKept c _ t h)
  · exact Host.Outcome.next.inj h ▸ idle_tablesKept s

end Sys2Proof.Machine
end

section
/-! The state after reset (10, section 10.1, R170): every block at its power-on values, and every invariant. -/

namespace Sys2Proof.Machine

/-! ### What a reset leaves, block by block -/

@[simp] theorem resetPart_line (s : State) (l : LineNo) : (resetPart s).line l = {} := by
  simp [State.line, resetPart, State.reset, Vector.get_eq_getElem]

@[simp] theorem resetPart_peer (s : State) (p : PeerNo) : (resetPart s).peer p = {} := by
  simp [State.peer, resetPart, State.reset, Vector.get_eq_getElem]

@[simp] theorem resetPart_bus (s : State) : (resetPart s).bus = {} := rfl

/-- With no frame in hand an output pin shows the last bit sent. -/
theorem State.output_of_no_frame (s : State) (l : LineNo) (h : (s.line l).framer.inHand = none) :
    s.output l = (s.line l).framer.out := by
  simp [State.output, frameBit, h]

theorem resetPart_nonurgent (s : State) : (resetPart s).nonurgent = false := by
  have flags : (resetPart s).flags = {} := rfl
  simp [State.nonurgent, LineFlags.any, StationFlags.any, flags]

theorem resetPart_urgent (s : State) : (resetPart s).urgent = false := rfl

/-- Settles O3: each block is read off `resetPart`. -/
theorem resetEveryBlock : Obligations.ResetEveryBlock := by
  intro c s reset
  refine ⟨resetPart s, exec_of_reset reset s, ?lines, ?stores, ?monitors, rfl, ?steering, ?bus, ?unit, ?peers, rfl, rfl, rfl,
    resetPart_urgent s, resetPart_nonurgent s, ⟨rfl, rfl, rfl, rfl⟩, rfl, rfl, rfl⟩
  case lines => simp
  case stores =>
    intro l
    simp [State.output_of_no_frame, Vector.get_eq_getElem]
  case monitors => simp
  case steering => simp [Vector.get_eq_getElem]
  case bus => simp [State.busDriver]
  case unit => exact ⟨rfl, rfl, rfl, rfl, rfl, rfl⟩
  case peers => simp

/-! ### The invariants -/

@[simp] theorem reset_line (l : LineNo) : State.reset.line l = {} := resetPart_line State.reset l
@[simp] theorem reset_peer (p : PeerNo) : State.reset.peer p = {} := resetPart_peer State.reset p
@[simp] theorem reset_lineSetup (l : LineNo) : State.reset.lineSetup l = {} := by
  simp [State.lineSetup, State.reset, Vector.get_eq_getElem]

theorem clockSound_reset : ClockSound State.reset := by
  constructor <;> simp [State.reset]

theorem selectionSound_reset : SelectionSound State.reset := by
  constructor
  case otherwise => intro l; simp [qualifies]
  case candidate => intro l; simp
  case selected => exact nofun
  case anchored => exact nofun
  case reading => exact fun _ => rfl
  case loading => intro _ l; simp

theorem outputSound_reset : OutputSound State.reset := by
  constructor
  case traffic => intro l h; simp
  case reading => exact fun _ => rfl

theorem flagsSound_reset : FlagsSound State.reset := by
  constructor
  case line => intro l c; cases c <;> simp [Line.live]
  case duplicate => exact nofun
  case echo => exact nofun
  case jabber => exact nofun
  case profile => simp [profileLive_iff]

theorem alignSound_reset : AlignSound State.reset := by
  constructor
  case aligned => intro l; simp
  case dark => intro l; simp
  case off => exact nofun
  case reading => exact fun _ => rfl
  case loading => intro _ l; simp

theorem logSound_reset : LogSound State.reset.log :=
  ⟨Nat.zero_le _, Nat.zero_lt_succ _, trivial, Nat.zero_le _⟩

theorem busSound_reset : BusSound State.reset := by
  constructor
  case queue => exact Nat.zero_le _
  case reports => exact Nat.zero_le _
  case own => intro p _; simp
  case sources => exact nofun
  case silent => exact nofun
  case held => exact fun _ => ⟨rfl, rfl, rfl, by simp⟩
  case loading => exact fun _ => rfl

/-- Settles O55: invariant by invariant. -/
theorem resetMeetsInvariants : Obligations.ResetMeetsInvariants :=
  ⟨clockSound_reset, selectionSound_reset, outputSound_reset, flagsSound_reset, alignSound_reset, logSound_reset,
    busSound_reset⟩

end Sys2Proof.Machine
end

section
/-! The step: the command in front, the part's own next command, or a period of the fine clock (log 1, log 4, log 28). -/

namespace Sys2Proof.Machine

theorem step_of_idle {s : State} (h : s.pending = []) : step s = .next (idle s) := by simp [step, h]

/-- What has come about and still stands. -/
def State.standing (s : State) : State := { s with due := s.due.filter (stillDue s) }

theorem asItStands_standing (s : State) (c : Instr) : asItStands s.standing c = asItStands s c := by cases c <;> rfl

/-- The part's own next command is put into the queue alone. -/
theorem step_of_nextOwn {s : State} {c : Instr} (idle' : s.pending = []) (own : nextOwn s.standing = some c) :
    step s = .next { s with pending := [asItStands s c], due := (s.due.filter (stillDue s)).erase c } := by
  rw [step_of_idle idle', ← asItStands_standing]
  rcases idle_cases s with ⟨d, h, e⟩ | ⟨h, -⟩
  · obtain rfl : d = c := Option.some.inj (h.symm.trans own)
    rw [e]
    rfl
  · exact absurd (h.symm.trans own) nofun

/-- With nothing of its own to do a period of the fine clock passes. -/
theorem step_of_nextOwn_none {s : State} (idle' : s.pending = []) (own : nextOwn s.standing = none) :
    step s = .next (tick s.standing) := by
  rw [step_of_idle idle']
  rcases idle_cases s with ⟨d, h, -⟩ | ⟨-, e⟩
  · exact absurd (h.symm.trans own) nofun
  · rw [e]
    rfl

/-! ### The order of the part's own commands -/

theorem nextOwn_of_lost {s : State} {l : LineNo} (h : s.lostNotice = some l) : nextOwn s = some (.selectionLostNotice l) := by
  simp [nextOwn, h]

theorem nextOwn_of_grade {s : State} {l : LineNo} {g : Nat} (lost : s.lostNotice = none) (h : s.gradeNotice = some (l, g)) :
    nextOwn s = some (.gradeChangeNotice l g) := by
  simp [nextOwn, lost, h]

theorem nextOwn_of_service {s : State} {c : Instr} (lost : s.lostNotice = none) (grade : s.gradeNotice = none)
    (h : nextService s = some c) : nextOwn s = some c := by
  simp [nextOwn, lost, grade, h]

theorem nextOwn_of_due {s : State} (lost : s.lostNotice = none) (grade : s.gradeNotice = none)
    (h : nextService s = none) : nextOwn s = s.due.head? := by
  cases due : s.due <;> simp [nextOwn, lost, grade, h, due]

/-- No bulletin enters service where the part does not run, one is in service, or none has come. -/
theorem nextService_eq_none {s : State}
    (h : s.running = false ∨ s.service.isSome = true ∨ (s.queue = [] ∧ s.restartsWaiting = 0)) : nextService s = none := by
  rcases h with h | h | ⟨empty, waiting⟩
  · simp [nextService, servable, State.serves, h]
  · obtain ⟨b, h⟩ := Option.isSome_iff_exists.mp h
    simp [nextService, servable, State.serves, h]
  · simp [nextService, servable, waiting, empty]

/-- The command that serves a bulletin is that of its kind, and of an INQUIRY's subject (R126, R135). -/
theorem serveCommand_of_servedBy {e : RxEntry} {c : Instr} (h : ServedBy e c) : serveCommand e = some c := by
  unfold ServedBy at h
  unfold serveCommand
  rcases h with ⟨k, rfl⟩ | ⟨k, rfl⟩ | ⟨k, rfl⟩ | ⟨k, subject⟩ | ⟨k, rfl⟩ | ⟨k, rfl⟩ <;> simp only [k]
  rcases subject with ⟨n, rfl⟩ | ⟨n, rfl⟩ | ⟨n, rfl⟩ | ⟨n, rfl⟩ | ⟨n, rfl⟩
  case inr.inr.inr.inr =>
    unfold subjectOf
    split <;> simp_all
  all_goals simp only [subjectOf, n]

/-- A service is the command of the queue's head, where none but the head may be served. -/
theorem nextService_of_head {s : State} {e : RxEntry} {c : Instr} (running : s.running = true) (idle : s.service = none)
    (waiting : s.restartsWaiting = 0) (head : s.queue.head? = some e) (served : ServedBy e c) : nextService s = some c := by
  have servable' := (servable_eq_some s e).mpr ⟨running, idle, waiting, head⟩
  rw [nextService_of_none_waiting s waiting, servable', Option.bind_some, serveCommand_of_servedBy served]

/-- A service command is taken as it is. -/
theorem asItStands_of_servedBy {e : RxEntry} {c : Instr} (s : State) (h : ServedBy e c) : asItStands s c = c := by
  unfold ServedBy at h
  rcases h with ⟨-, rfl⟩ | ⟨-, rfl⟩ | ⟨-, rfl⟩ | ⟨-, ⟨-, rfl⟩ | ⟨-, rfl⟩ | ⟨-, rfl⟩ | ⟨-, rfl⟩ | ⟨-, rfl⟩⟩ | ⟨-, rfl⟩ | ⟨-, rfl⟩ <;>
    rfl

theorem stillDue_of_other (s : State) (c : Instr) (watch : ∀ l, c ≠ .edgeWatchExpiry l)
    (other : c ∉ [Instr.carrierIdle, .launch, .jabberCutoff, .backoffExpiry, .transmissionRelease, .collision]) :
    stillDue s c = true := by
  cases c <;> simp_all [stillDue]

theorem asItStands_of_none (s : State) (c : Instr) (h : bitsBrought c = none) : asItStands s c = c := by
  cases c <;> simp_all [bitsBrought, asItStands]

theorem asItStands_of_some (s : State) (c : Instr) (l : LineNo) (bits : List Bool) (h : bitsBrought c = some (l, bits)) :
    asItStands s c = huntCommand s l bits := by
  cases c <;> simp_all [bitsBrought, asItStands]

/-- Settles O1: the queue's front by the definition, the rest by the order of the part's own commands. -/
theorem stepRunsFrontCommand : Obligations.StepRunsFrontCommand := by
  intro s
  refine ⟨fun _ _ => rfl, ?own, stillDue_of_other s, asItStands_of_none s, ?hunt⟩
  case hunt =>
    intro c l bits h
    rw [asItStands_of_some s c l bits h, huntCommand]
    simp only [List.isEmpty_iff]
  case own =>
    intro due idle' dueIs
    subst dueIs
    refine ⟨fun l lost => step_of_nextOwn idle' (nextOwn_of_lost lost),
      fun l g lost grade => step_of_nextOwn idle' (nextOwn_of_grade lost grade), ?_, ?_, ?_⟩
    · intro lost grade running idle waiting
      exact step_of_nextOwn idle' (nextOwn_of_service lost grade (nextService_of_waiting s.standing running idle waiting))
    · intro e c lost grade running idle waiting head served
      have own := nextOwn_of_service (s := s.standing) lost grade (nextService_of_head running idle waiting head served)
      rw [step_of_nextOwn idle' own, asItStands_of_servedBy s served]
    · intro lost grade none
      have own := nextOwn_of_due (s := s.standing) lost grade (nextService_eq_none none)
      refine ⟨fun c rest due => ?_, fun due => ?_, fun due reset => ?_⟩
      · rw [step_of_nextOwn (c := c) idle' (own.trans (by simp [State.standing, due])), due, List.erase_cons_head]
      all_goals rw [step_of_nextOwn_none idle' (own.trans (by simp [State.standing, due])), State.standing, due]
      exact congrArg Host.Outcome.next (tick_of_reset _ reset)

end Sys2Proof.Machine
end

section
/-! A period of the fine clock while nothing waits (log 1): what the step then is, and the image read (10, section 10.2). -/

namespace Sys2Proof.Machine

/-! ### The step of an idling part -/

theorem Idling.standing {s : State} (h : Idling s) : s.standing = s := by
  obtain ⟨-, due, -⟩ := h
  rw [State.standing, due, List.filter_nil, ← due]

/-- The step of an idling part is a period of the fine clock (log 1, log 4). -/
theorem Idling.step_eq {s : State} (h : Idling s) : step s = .next (tick s) := by
  have own : nextOwn s.standing = none := by
    rw [h.standing]
    obtain ⟨-, due, lost, grade, -, none⟩ := h
    rw [nextOwn_of_due lost grade (nextService_eq_none (.inr none.symm)), due, List.head?_nil]
  rw [step_of_nextOwn_none h.1 own, h.standing]

theorem Idling.tick_eq {s : State} (h : Idling s) : tick s = tickInputs (tickFloor (tickFramers s)) := by
  obtain ⟨-, -, -, -, reset, -⟩ := h
  simp [tick, reset]

/-! ### What a period's parts leave -/

@[simp] theorem tickFloor_running (s : State) : (tickFloor s).running = s.running := by
  obtain ⟨e, -, h⟩ | ⟨-, -, h⟩ | ⟨-, -, -, h⟩ | ⟨-, -, -, h⟩ := tickFloor_cases s <;> rw [h] <;> rfl

/-- A period brings the boundary about or nothing. -/
theorem tickFloor_due (s : State) : (tickFloor s).due = s.due ∨ (tickFloor s).due = s.due ++ [.floorFrameBoundary] := by
  obtain ⟨e, -, h⟩ | ⟨-, -, h⟩ | ⟨-, -, -, h⟩ | ⟨-, -, -, h⟩ := tickFloor_cases s <;> rw [h]
  case inr.inl => exact .inr rfl
  all_goals exact .inl rfl

theorem tickFloor_loader (s : State) : (tickFloor s).loader = s.loader := (congrArg State.loader (tickFloor_frame s) :)
theorem tickFloor_pins (s : State) : (tickFloor s).pins = s.pins := (congrArg State.pins (tickFloor_frame s) :)

theorem tickFramers_of_not_running {s : State} (h : s.running = false) : tickFramers s = s := by simp [tickFramers, h]

/-! ### Bits of an octet -/

theorem bitsToNat_testBit (bs : List Bool) (i : Nat) : (bitsToNat bs).testBit i = bs.getD i false := by
  induction bs generalizing i with
  | nil => simp [bitsToNat]
  | cons b bs ih =>
    cases i with
    | zero => cases b <;> simp [bitsToNat]
    | succ i =>
      have half : (b.toNat + 2 * bitsToNat bs) / 2 = bitsToNat bs := by
        have := b.toNat_lt
        omega
      rw [bitsToNat, Nat.testBit_succ, half, ih, List.getD_cons_succ]

theorem bitsOctet_getLsbD (bs : List Bool) (i : Nat) (h : i < 8) : (bitsOctet bs).getLsbD i = bs.getD i false := by
  rw [bitsOctet, BitVec.getLsbD_ofNat, bitsToNat_testBit, decide_eq_true h, Bool.true_and]

/-! ### The image read (R171; log 24) -/

/-- A bit is sampled in the period that leaves the count of periods at `fu`. -/
def spiSamples (fu : Nat) : Prop := fu % 64 = 32 ∧ 24 ≤ fu / 64 ∧ fu / 64 < 968

/-- The bits held after the period. -/
def spiBits (s : State) : List Bool :=
  if (s.loader.fu + 1) % 64 = 32 ∧ 24 ≤ (s.loader.fu + 1) / 64 ∧ (s.loader.fu + 1) / 64 < 968 then
    s.loader.bits ++ [s.pins.spiDataIn]
  else s.loader.bits

theorem spiBits_of_samples {s : State} (h : spiSamples (s.loader.fu + 1)) :
    spiBits s = s.loader.bits ++ [s.pins.spiDataIn] := if_pos h

theorem spiBits_of_not {s : State} (h : ¬ spiSamples (s.loader.fu + 1)) : spiBits s = s.loader.bits := if_neg h

/-- A period of the read: a bit joins, eight of them make an octet, and the 968th SPI period hands over. -/
theorem tickLoader_eq {s : State} (reading : s.loader.phase = .reading) :
    tickLoader s = { s with
      loader := if (spiBits s).length = 8
        then { s.loader with fu := s.loader.fu + 1, bits := [], buffer := s.loader.buffer ++ [bitsOctetMsb (spiBits s)] }
        else { s.loader with fu := s.loader.fu + 1, bits := spiBits s }
      due := s.due ++ if s.loader.fu + 1 = Config.spiLength then [.handOverIntoStart []] else [] } := by
  have notDone : s.loader.phase ≠ .done := by simp [reading]
  unfold tickLoader
  rw [if_neg notDone]
  dsimp only
  by_cases last : s.loader.fu + 1 = Config.spiLength
  · rw [if_pos last, if_pos last]
    rfl
  · rw [if_neg last, if_neg last, List.append_nil]
    rfl

/-- The idle step of a part that loads its image. -/
theorem Idling.step_loading {s : State} (h : Idling s) (loading : s.floor.state = .loading) :
    step s = .next (tickLoader (tickFloor s)) := by
  have still : s.running = false := by simp [State.running, loading]
  rw [h.step_eq, h.tick_eq, tickFramers_of_not_running still, tickInputs, tickFloor_running, still]
  rfl

/-- Settles O4: the release by its definition; then a period of the read by `tickLoader_eq`. -/
theorem releaseStartsLoad : Obligations.ReleaseStartsLoad := by
  intro k s
  refine ⟨fun held => ⟨_, execResetPinRelease_of_inReset k held, rfl, rfl, rfl, rfl, rfl, rfl, rfl⟩, ?_⟩
  intro idling loading reading short
  have loader := tickFloor_loader s
  have pins := tickFloor_pins s
  have bits : spiBits (tickFloor s) = spiBits s := by simp only [spiBits, loader, pins]
  refine ⟨_, idling.step_loading loading, ?_⟩
  rw [tickLoader_eq (loader ▸ reading), bits, loader]
  refine ⟨?same, fun skip => ?kept, fun middle first last => ?sampled, ?handed⟩
  case same => dsimp only; split <;> rfl
  case kept =>
    have skipped : ¬ spiSamples (s.loader.fu + 1) := by unfold spiSamples; omega
    simp [spiBits_of_not skipped, show s.loader.bits.length ≠ 8 by omega]
  case sampled =>
    have sampled : spiSamples (s.loader.fu + 1) := by unfold spiSamples; omega
    rw [spiBits_of_samples sampled]
    by_cases full : s.loader.bits.length = 7
    · rw [if_pos full]
      simp only [List.length_append, full, List.length_singleton, if_true, true_and]
      refine ⟨_, rfl, ?_, fun i => ?_⟩
      · rw [bitsOctetMsb, bitsOctet_getLsbD _ _ (by omega), List.reverse_append, List.reverse_singleton,
          List.singleton_append, List.getD_cons_zero]
      · have position : 7 - i.val = (6 - i.val) + 1 := by omega
        have inside : 6 - i.val < s.loader.bits.length := by omega
        rw [bitsOctetMsb, bitsOctet_getLsbD _ _ (by omega), List.reverse_append, List.reverse_singleton, List.singleton_append,
          position, List.getD_cons_succ, List.getD_eq_getElem?_getD, List.getElem?_reverse inside, full,
          List.getD_eq_getElem?_getD, show 7 - 1 - (6 - i.val) = i.val by omega]
    · simp [full, show s.loader.bits.length + 1 ≠ 8 by omega]
  case handed =>
    have due : (tickFloor s).due = [] ∨ (tickFloor s).due = [.floorFrameBoundary] := by
      have := tickFloor_due s
      rwa [idling.2.1, List.nil_append] at this
    dsimp only
    rcases due with due | due <;> rw [due] <;> split <;> simp_all [Config.spiLength]

end Sys2Proof.Machine
end

section
/-! A period of the fine clock at the lines' inputs (01; log 16): what it does to each receiver, and what it brings about. -/

namespace Sys2Proof.Machine

/-! ### One line -/

/-- The bits held of the octet in assembly as one more arrives. -/
def Lrx.octetBits (r : Lrx) (bit : Bool) : List Bool := if r.rxCount < 272 then [] else r.rxBits ++ [bit]

/-- The receiver after a clock edge with its bit. -/
def Lrx.edged (r : Lrx) (bit : Bool) : Lrx :=
  if r.align = .aligned then
    { r with
      edgeWatch := 0, rxCount := if r.rxCount = 559 then 272 else r.rxCount + 1
      rxBits := if (r.octetBits bit).length = 8 then [] else r.octetBits bit }
  else { r with edgeWatch := 0 }

/-- What a clock edge with its bit brings about. -/
def Lrx.edgeEvents (r : Lrx) (l : LineNo) (bit : Bool) : List Instr :=
  match r.align with
  | .off => []
  | .dark => [.firstClockEdge l bit]
  | .search => [if r.held.isEmpty then .candidateTaken l [bit] else .candidateServiceOctet l [bit]]
  | .check => [.confirmationPoint l [bit]]
  | .aligned => alignedEvents l r.rxCount (r.octetBits bit)

/-- The receiver after a period without an edge. -/
def Lrx.watched (r : Lrx) : Lrx :=
  if r.align = .off ∨ r.align = .dark then r else { r with edgeWatch := bump Config.edgeWatchLimit r.edgeWatch }

/-- The edge watch runs out in this period. -/
def Lrx.watchEvents (r : Lrx) (l : LineNo) : List Instr :=
  if r.align ≠ .off ∧ r.align ≠ .dark ∧ r.edgeWatch + 1 = Config.edgeWatchLimit then [.edgeWatchExpiry l] else []

/-- A line after a period with the pins at `p`. -/
def Line.ticked (p : Pins) (l : LineNo) (x : Line) : Line :=
  { x with lrx :=
      if p.lineClock.getLsbD l.val && !x.lrx.clockSeen then
        Lrx.edged { x.lrx with clockSeen := p.lineClock.getLsbD l.val } (p.lineData.getLsbD l.val)
      else Lrx.watched { x.lrx with clockSeen := p.lineClock.getLsbD l.val } }

/-- What a period brings about on a line. -/
def Line.events (p : Pins) (l : LineNo) (x : Line) : List Instr :=
  if p.lineClock.getLsbD l.val && !x.lrx.clockSeen then x.lrx.edgeEvents l (p.lineData.getLsbD l.val) else x.lrx.watchEvents l

theorem State.setLine_setLine (s : State) (l : LineNo) (x y : Line) : (s.setLine l x).setLine l y = s.setLine l y := by
  have lines : ((s.setLine l x).setLine l y).lines = (s.setLine l y).lines := by
    refine State.lines_ext _ _ fun m => ?_
    simp only [State.line_setLine]
    split <;> rfl
  exact congrArg (fun v => { s with lines := v }) lines

theorem State.onLrx_onLrx (s : State) (l : LineNo) (f g : Lrx → Lrx) : (s.onLrx l f).onLrx l g = s.onLrx l (g ∘ f) := by
  rw [State.onLrx, State.onLrx_line, State.onLrx, State.setLine_setLine]
  rfl

theorem State.onLrx_self (s : State) (l : LineNo) : s.onLrx l id = s := by
  have lines : (s.onLrx l id).lines = s.lines := by
    refine State.lines_ext _ _ fun m => ?_
    by_cases e : m = l
    · subst e; simp
    · exact State.onLrx_line_ne s l m id e
  exact congrArg (fun v => { s with lines := v }) lines

@[simp] theorem State.nowDue_nil (s : State) : s.nowDue [] = s := by simp [State.nowDue]

theorem lineEdge_eq (l : LineNo) (bit : Bool) (s : State) :
    lineEdge l bit s = (s.onLrx l fun r => r.edged bit).nowDue ((s.line l).lrx.edgeEvents l bit) := by
  unfold lineEdge
  dsimp only
  have other : (s.line l).lrx.align ≠ .aligned →
      s.onLrx l (fun r => { r with edgeWatch := 0 }) = s.onLrx l fun r => r.edged bit := fun h => by
    simp [State.onLrx, Lrx.edged, h]
  split
  · next align => rw [other (by simp [align]), Lrx.edgeEvents, align, State.nowDue_nil]
  · next align => rw [other (by simp [align]), Lrx.edgeEvents, align]
  · next align =>
    rw [← other (by simp [align])]
    simp [huntCommand, Lrx.edgeEvents, align]
  · next align =>
    rw [← other (by simp [align])]
    simp [huntCommand, Lrx.edgeEvents, align]
  · next align =>
    have edged : (Lrx.edged (s.line l).lrx bit) = _ := if_pos align
    rw [State.onLrx_onLrx, Lrx.edgeEvents, align]
    simp only [State.onLrx, Function.comp, edged]
    rfl

theorem watchLine_eq (l : LineNo) (s : State) :
    watchLine l s = (s.onLrx l Lrx.watched).nowDue ((s.line l).lrx.watchEvents l) := by
  unfold watchLine Lrx.watchEvents
  dsimp only
  split
  · next silent =>
    have same : s.onLrx l Lrx.watched = s.onLrx l id := by simp [State.onLrx, Lrx.watched, silent]
    rw [same, State.onLrx_self, if_neg (by tauto), State.nowDue_nil]
  · next heard =>
    have same : s.onLrx l (fun r => { r with edgeWatch := bump Config.edgeWatchLimit r.edgeWatch }) = s.onLrx l Lrx.watched := by
      simp [State.onLrx, Lrx.watched, heard]
    rw [← same]
    split
    · next last => rw [if_pos (by tauto)]
    · next more => rw [if_neg (by tauto), State.nowDue_nil]

/-- A period at one line's input: the line is rewritten from itself, and what it brings about joins the list. -/
theorem tickLine_eq (s : State) (l : LineNo) :
    tickLine s l = (s.setLine l ((s.line l).ticked s.pins l)).nowDue ((s.line l).events s.pins l) := by
  unfold tickLine Line.ticked Line.events
  dsimp only
  split
  · rw [lineEdge_eq, State.onLrx_onLrx, State.onLrx_line]
    rfl
  · rw [watchLine_eq, State.onLrx_onLrx, State.onLrx_line]
    rfl

/-! ### All lines -/

/-- The lines' inputs in a period: every line by itself, and what they bring about in ascending order. -/
theorem forLines_tickLine (ls : List LineNo) (nodup : ls.Nodup) (s : State) :
    (∀ m, (s.forLines ls tickLine).line m = if m ∈ ls then (s.line m).ticked s.pins m else s.line m)
      ∧ (s.forLines ls tickLine).due = s.due ++ ls.flatMap fun l => (s.line l).events s.pins l := by
  induction ls generalizing s with
  | nil => simp [State.forLines]
  | cons l ls ih =>
    obtain ⟨fresh, nodup⟩ := List.nodup_cons.mp nodup
    obtain ⟨lines, due⟩ := ih nodup (tickLine s l)
    have pins : (tickLine s l).pins = s.pins := by rw [tickLine_eq]; rfl
    have line : ∀ m, (tickLine s l).line m = if m = l then (s.line m).ticked s.pins m else s.line m := fun m => by
      rw [tickLine_eq]
      refine (State.line_setLine s l m _).trans ?_
      split
      · next e => rw [e]
      · rfl
    refine ⟨fun m => (lines m).trans ?_, due.trans ?_⟩
    · rw [line, pins]
      by_cases e : m = l
      · subst e; simp [fresh]
      · simp [e]
    · have others : ∀ m ∈ ls, ((tickLine s l).line m).events (tickLine s l).pins m = (s.line m).events s.pins m := fun m h => by
        have ne : m ≠ l := fun e => fresh (e ▸ h)
        rw [line, pins, if_neg ne]
      have own : (tickLine s l).due = s.due ++ (s.line l).events s.pins l := by rw [tickLine_eq]; rfl
      rw [List.flatMap_congr others, own, List.flatMap_cons, List.append_assoc]

theorem forLines_tickLine_frame (ls : List LineNo) (s : State) :
    { s.forLines ls tickLine with lines := s.lines, due := s.due } = s := by
  refine State.forLines_induct (fun t => { t with lines := s.lines, due := s.due } = s) tickLine ls s rfl fun t l _ kept => ?_
  rw [tickLine_eq]
  exact kept

theorem allLines_nodup : allLines.Nodup := by decide

/-! ### The commands a line brings about -/

/-- Whatever a line brings about is for that line. -/
theorem alignedEvents_line (l : LineNo) (k : Nat) (bits : List Bool) (c : Instr) (h : c ∈ alignedEvents l k bits) :
    c.line? = some l := by
  unfold alignedEvents at h
  split at h
  · cases h
  · dsimp only at h
    simp only [List.mem_append] at h
    rcases h with h | h
    · split at h <;> simp at h
      rw [h]; rfl
    · split at h
      · simp only [List.mem_append, List.mem_singleton] at h
        rcases h with (h | h) | h
        · split at h <;> simp at h
          rw [h]; rfl
        · split at h <;> simp at h
          rw [h]; rfl
        · rw [h]; rfl
      · cases h

theorem Line.events_line (p : Pins) (l : LineNo) (x : Line) (c : Instr) (h : c ∈ x.events p l) : c.line? = some l := by
  unfold Line.events at h
  split at h
  · unfold Lrx.edgeEvents at h
    split at h
    · cases h
    · rw [List.mem_singleton.mp h]; rfl
    · rw [List.mem_singleton.mp h]; split <;> rfl
    · rw [List.mem_singleton.mp h]; rfl
    · exact alignedEvents_line l _ _ c h
  · unfold Lrx.watchEvents at h
    split at h
    · rw [List.mem_singleton.mp h]; rfl
    · cases h

/-! ### The period up to the bus interface's part -/

/-- Floor time and the framers' bits have passed, and every line's input is taken. -/
def State.inputsTaken (s : State) : State := (tickFloor (tickFramers s)).forLines allLines tickLine

theorem Idling.tick_running {s : State} (h : Idling s) (running : s.running = true) :
    tick s = tickService (tickBus s.inputsTaken) := by
  have still : (tickFloor (tickFramers s)).running = true := by
    rw [tickFloor_running]
    unfold tickFramers
    rw [if_pos running]
    exact State.forLines_induct (fun t => t.running = true) _ _ s running fun t l _ r => by
      unfold frameBit
      dsimp only
      split
      · exact r
      · split <;> exact r
  rw [h.tick_eq, tickInputs, if_pos still]
  rfl

end Sys2Proof.Machine
end

section
/-! A period of the fine clock at the bus interface (06; log 10, log 31): what it leaves and what it brings about. -/

namespace Sys2Proof.Machine

/-! ### The parts of a period -/

/-- The recovery of bit times after the period (R100). -/
def State.nextRecovery (s : State) : Recovery := s.bus.recovery.next s.bus.busy s.pins.busLevel (pairEdge s) s.markNow

/-- What a bit time received brings about (R101, R104, R105). -/
def State.received (s : State) : List Instr :=
  if s.bus.recovery.ends s.nextRecovery then (bitTimeCommand { s.bus with recovery := s.nextRecovery }).toList else []

theorem tickReceive_eq (s : State) :
    tickReceive (pairEdge s) s
      = { s with bus := { s.bus with recovery := s.nextRecovery }, due := s.due ++ s.received } := by
  unfold tickReceive State.received
  dsimp only
  change (if s.bus.recovery.ends s.nextRecovery = true then _ else _) = _
  split
  · rfl
  · rw [List.append_nil]; rfl

/-- The octets that the bulletin in flight puts on the wire. -/
def Bus.wire (b : Bus) (f : Flight) : List Octet := withCheck (b.content f.slot)

/-- The periods that the bulletin in flight takes on the wire. -/
def Bus.wireTime (b : Bus) (f : Flight) : Nat := 64 * (26 + 8 * (b.wire f).length)

/-- A bulletin in SENDING, one period on. -/
def State.sentOn (s : State) (f : Flight) : Flight :=
  { f with sent := f.sent + 1, stop := readBack s f (s.bus.wire f) (f.sent + 1) (s.bus.wireTime f) }

/-- The bulletin in flight after the period's part of the transmit path. -/
def State.flown (s : State) : Option Flight := s.bus.flight.map fun f => if f.phase = .sending then s.sentOn f else f

/-- What the transmit path brings about: a collision's stop, or the release (R109, R110). -/
def State.sendingEvents (s : State) : List Instr :=
  match s.bus.flight with
  | none => []
  | some f =>
    if f.phase = .sending then
      if (s.sentOn f).stop = some (f.sent + 1) then [.collision]
      else if f.sent + 1 = s.bus.wireTime f then [.transmissionRelease] else []
    else []

theorem tickSending_eq (s : State) :
    tickSending s = { s with bus := { s.bus with flight := s.flown }, due := s.due ++ s.sendingEvents } := by
  by_cases sending : s.bus.sending = true
  · cases flight : s.bus.flight with
    | none => simp [Bus.sending, flight] at sending
    | some f =>
      have phase : f.phase = .sending := by simpa [Bus.sending, flight] using sending
      obtain ⟨stop, cs, hstop, e, hcs⟩ := tickSending_spec s f flight phase
      subst hstop
      have cs' : cs = s.sendingEvents := by
        rw [hcs]
        simp only [State.sendingEvents, flight, phase, if_true]
        rfl
      have flown : s.flown = some (s.sentOn f) := by simp [State.flown, flight, phase]
      rw [e, cs', flown]
      rfl
  · rw [tickSending_of_not_sending s (by simpa using sending)]
    have flown : s.flown = s.bus.flight := by
      cases flight : s.bus.flight with
      | none => simp [State.flown, flight]
      | some f =>
        have : f.phase ≠ .sending := by simpa [Bus.sending, flight] using sending
        simp [State.flown, flight, this]
    have none : s.sendingEvents = [] := by
      cases flight : s.bus.flight with
      | none => simp [State.sendingEvents, flight]
      | some f =>
        have : f.phase ≠ .sending := by simpa [Bus.sending, flight] using sending
        simp [State.sendingEvents, flight, this]
    rw [flown, none, List.append_nil]

/-- A bulletin in BACKOFF, one bit time on (R111). -/
def Flight.backedOff (f : Flight) : Flight :=
  if f.phase = .backoff ∧ 0 < f.backoff then { f with backoff := f.backoff - 1 } else f

/-- The bus interface at the end of a bit time (R103, R111, R114). -/
def Bus.bitTimeEnded (b : Bus) (sense : Bool) : Bus :=
  { b with
    quiet := if b.sawEdge then b.quiet else bump Config.launchQuiet b.quiet
    driveRun := if sense then bump Config.jabberRun b.driveRun else 0
    sawEdge := false, flight := b.flight.map Flight.backedOff }

/-- What the end of a bit time brings about for the bulletin in flight, with the quiet count at `quiet`. -/
def Bus.bitTimeFlightEvents (b : Bus) (quiet : Nat) : List Instr :=
  match b.flight with
  | none => []
  | some f =>
    if f.phase = .backoff ∧ 0 < f.backoff then if f.backoff = 1 then [.backoffExpiry] else []
    else if f.phase = .gap ∧ quiet = Config.launchQuiet ∧ b.enabled = true then [.launch] else []

/-- What the end of a bit time brings about. -/
def Bus.bitTimeEvents (b : Bus) (sense : Bool) : List Instr :=
  (if b.busy && decide (Config.idleQuiet ≤ (b.bitTimeEnded sense).quiet) then [.carrierIdle] else [])
    ++ (if (b.bitTimeEnded sense).driveRun = Config.jabberRun ∧ b.jabber = false then [.jabberCutoff] else [])
    ++ b.bitTimeFlightEvents (b.bitTimeEnded sense).quiet

theorem bitTimeFlight_eq (s : State) :
    bitTimeFlight s = { s with
      bus := { s.bus with flight := s.bus.flight.map Flight.backedOff }
      due := s.due ++ s.bus.bitTimeFlightEvents s.bus.quiet } := by
  unfold bitTimeFlight Bus.bitTimeFlightEvents
  cases flight : s.bus.flight with
  | none =>
    simp only [Option.map_none, List.append_nil]
    rw [← flight]
  | some f =>
    dsimp only [Option.map_some]
    unfold Flight.backedOff
    split
    · split
      · rfl
      · rw [List.append_nil]; rfl
    · split
      · rw [← flight]; rfl
      · rw [← flight, List.append_nil]

theorem nowDue_ite (p : Prop) [Decidable p] (s : State) (cs : List Instr) :
    (if p then s.nowDue cs else s) = s.nowDue (if p then cs else []) := by
  split
  · rfl
  · rw [State.nowDue_nil]

theorem nowDue_nowDue (s : State) (cs ds : List Instr) : (s.nowDue cs).nowDue ds = s.nowDue (cs ++ ds) := by
  simp [State.nowDue, List.append_assoc]

theorem bitTimeEnd_eq (s : State) :
    bitTimeEnd s = { s with
      bus := s.bus.bitTimeEnded s.pins.driveSense, due := s.due ++ s.bus.bitTimeEvents s.pins.driveSense } := by
  unfold bitTimeEnd
  dsimp only
  rw [nowDue_ite, nowDue_ite, nowDue_nowDue, bitTimeFlight_eq]
  simp only [State.nowDue, State.onBus, List.append_assoc, Bus.bitTimeEnded, Bus.bitTimeEvents, Bus.bitTimeFlightEvents]
  rfl

/-! ### The period as a whole -/

/-- The bus interface as the period leaves it, the end of a bit time aside. -/
def State.carrierCounted (s : State) : Bus :=
  { s.bus with
    recovery := s.nextRecovery, flight := s.flown, lastLevel := s.pins.busLevel
    bitPhase := (s.bus.bitPhase + 1) % Config.bitTime, quiet := if busEdge s then 0 else s.bus.quiet
    busy := s.bus.busy || busEdge s, sawEdge := s.bus.sawEdge || busEdge s }

/-- A period of the bus interface: reception, transmission and the carrier's count, then the end of a bit time. -/
theorem tickBus_eq {s : State} (on : s.onBusNow = true) :
    tickBus s = { s with
      bus := if endsBitTime s then s.carrierCounted.bitTimeEnded s.pins.driveSense else s.carrierCounted
      due := s.due ++ (s.received ++ s.sendingEvents
        ++ if endsBitTime s then s.carrierCounted.bitTimeEvents s.pins.driveSense else []) } := by
  have phase : endsBitTime s = decide ((s.bus.bitPhase + 1) % Config.bitTime = 0) := rfl
  unfold tickBus
  rw [if_neg (by simp [on])]
  dsimp only
  rw [tickReceive_eq, tickSending_eq, phase]
  have counted : (State.onBus { s with
        bus := { s.bus with recovery := s.nextRecovery, flight := s.flown }
        due := s.due ++ s.received ++ s.sendingEvents } fun b => { b with
          lastLevel := s.pins.busLevel, bitPhase := (b.bitPhase + 1) % Config.bitTime
          quiet := if busEdge s then 0 else b.quiet, busy := b.busy || busEdge s, sawEdge := b.sawEdge || busEdge s })
      = { s with bus := s.carrierCounted, due := s.due ++ (s.received ++ s.sendingEvents) } := by
    rw [← List.append_assoc]
    rfl
  refine Eq.trans (b := if s.carrierCounted.bitPhase = 0
    then bitTimeEnd { s with bus := s.carrierCounted, due := s.due ++ (s.received ++ s.sendingEvents) }
    else { s with bus := s.carrierCounted, due := s.due ++ (s.received ++ s.sendingEvents) }) (by rw [← counted]; rfl) ?_
  by_cases last : (s.bus.bitPhase + 1) % Config.bitTime = 0
  · rw [if_pos (show s.carrierCounted.bitPhase = 0 from last), if_pos (decide_eq_true last), if_pos (decide_eq_true last),
      bitTimeEnd_eq, List.append_assoc]
  · rw [if_neg (show ¬ s.carrierCounted.bitPhase = 0 from last), decide_eq_false last]
    simp

/-! ### The step of a station whose bus interface idles -/

theorem tickFramers_frame (s : State) : { tickFramers s with lines := s.lines } = s := by
  unfold tickFramers
  split
  · refine State.forLines_induct (fun t => { t with lines := s.lines } = s) _ _ s rfl fun t l _ kept => ?_
    unfold frameBit
    dsimp only
    split
    · exact kept
    · split <;> exact kept
  · rfl

/-- Before the bus interface's part a period has changed lines, floor time and the list of what is due alone. -/
theorem State.inputsTaken_frame (s : State) :
    { s.inputsTaken with lines := s.lines, floor := s.floor, due := s.due } = s := by
  have framers := tickFramers_frame s
  have floor := tickFloor_frame (tickFramers s)
  have lines := forLines_tickLine_frame allLines (tickFloor (tickFramers s))
  calc { s.inputsTaken with lines := s.lines, floor := s.floor, due := s.due }
      = { ({ s.inputsTaken with
            lines := (tickFloor (tickFramers s)).lines, due := (tickFloor (tickFramers s)).due } : State) with
          lines := s.lines, floor := s.floor, due := s.due } := rfl
    _ = { ({ tickFloor (tickFramers s) with floor := (tickFramers s).floor, due := (tickFramers s).due } : State) with
          lines := s.lines, floor := s.floor, due := s.due } := congrArg (fun t : State =>
          { t with lines := s.lines, floor := s.floor, due := s.due }) lines
    _ = { ({ tickFramers s with lines := s.lines } : State) with floor := s.floor, due := s.due } := congrArg (fun t : State =>
          { t with lines := s.lines, floor := s.floor, due := s.due }) floor
    _ = s := congrArg (fun t : State => { t with floor := s.floor, due := s.due }) framers

theorem State.inputsTaken_bus (s : State) : s.inputsTaken.bus = s.bus := (congrArg State.bus s.inputsTaken_frame :)
theorem State.inputsTaken_pins (s : State) : s.inputsTaken.pins = s.pins := (congrArg State.pins s.inputsTaken_frame :)
theorem State.inputsTaken_loader (s : State) : s.inputsTaken.loader = s.loader := (congrArg State.loader s.inputsTaken_frame :)

theorem State.inputsTaken_floor (s : State) : s.inputsTaken.floor = (tickFloor (tickFramers s)).floor :=
  (congrArg State.floor (forLines_tickLine_frame allLines (tickFloor (tickFramers s))) :)

theorem State.inputsTaken_running (s : State) : s.inputsTaken.running = s.running := by
  have framers : (tickFramers s).floor = s.floor := (congrArg State.floor (tickFramers_frame s) :)
  unfold State.running
  rw [State.inputsTaken_floor]
  exact (tickFloor_running (tickFramers s)).trans (congrArg (fun f : Floor => f.state != .loading) framers)

/-- What has come about before the bus interface's part is the boundary or a line's. -/
theorem State.mem_inputsTaken_due {s : State} {c : Instr} (h : c ∈ s.inputsTaken.due) :
    c ∈ s.due ∨ c = .floorFrameBoundary ∨ c.line?.isSome = true := by
  unfold State.inputsTaken at h
  rw [(forLines_tickLine allLines allLines_nodup _).2] at h
  have framers : (tickFramers s).due = s.due := (congrArg State.due (tickFramers_frame s) :)
  rcases List.mem_append.mp h with h | h
  · rcases tickFloor_due (tickFramers s) with e | e <;> rw [e, framers] at h
    · exact .inl h
    · rcases List.mem_append.mp h with h | h
      · exact .inl h
      · exact .inr (.inl (List.mem_singleton.mp h))
  · obtain ⟨l, -, h⟩ := List.mem_flatMap.mp h
    exact .inr (.inr (by rw [Line.events_line _ l _ c h]; rfl))

/-- The commands of the bus interface: for no line, and neither the boundary nor a REPORT's submission. -/
def OfBus (c : Instr) : Prop := c.line? = none ∧ c ≠ .floorFrameBoundary ∧ c ≠ .reportSubmission

theorem tickService_bus (s : State) : (tickService s).bus = s.bus := by
  cases h : s.service with
  | none => rw [tickService_of_none s h]
  | some b => rw [tickService_of_some s b h]

theorem tickService_floor (s : State) : (tickService s).floor = s.floor := by
  cases h : s.service with
  | none => rw [tickService_of_none s h]
  | some b => rw [tickService_of_some s b h]

theorem mem_tickService_due {s : State} {c : Instr} (other : c ≠ .reportSubmission) :
    c ∈ (tickService s).due ↔ c ∈ s.due := by
  cases h : s.service with
  | none => rw [tickService_of_none s h]
  | some b =>
    rw [tickService_of_some s b h]
    dsimp only
    split <;> simp [other]

theorem BusIdling.on {s : State} (h : BusIdling s) : s.inputsTaken.onBusNow = true := by
  obtain ⟨-, running, pair⟩ := h
  have number : s.inputsTaken.standalone = s.standalone :=
    congrArg (fun d : Loader => decide (12 ≤ d.strap.toNat)) s.inputsTaken_loader
  simp [State.onBusNow, State.inputsTaken_running, running, number, pair]

/-- The idle step at the bus interface: what it leaves of it, and which of its commands have come about. -/
theorem BusIdling.step_spec {s : State} (h : BusIdling s) :
    ∃ t, step s = .next t
      ∧ t.bus = (if endsBitTime s then s.inputsTaken.carrierCounted.bitTimeEnded s.pins.driveSense
          else s.inputsTaken.carrierCounted)
      ∧ t.floor = s.inputsTaken.floor
      ∧ ∀ c, OfBus c → (c ∈ t.due ↔ c ∈ s.inputsTaken.received ∨ c ∈ s.inputsTaken.sendingEvents
          ∨ (endsBitTime s = true ∧ c ∈ s.inputsTaken.carrierCounted.bitTimeEvents s.pins.driveSense)) := by
  have ends : endsBitTime s.inputsTaken = endsBitTime s := by simp only [endsBitTime, State.inputsTaken_bus]
  have tick' := h.1.tick_running h.2.1
  refine ⟨_, h.1.step_eq, ?_⟩
  rw [tick', tickBus_eq h.on, tickService_bus, tickService_floor, ends, State.inputsTaken_pins]
  refine ⟨rfl, rfl, fun c ⟨line, boundary, report⟩ => ?_⟩
  rw [mem_tickService_due report, List.mem_append]
  have before : c ∉ s.inputsTaken.due := fun member => by
    rcases State.mem_inputsTaken_due member with m | m | m
    · rw [h.1.2.1] at m
      cases m
    · exact boundary m
    · rw [line] at m
      cases m
  simp only [before, false_or, List.mem_append, or_assoc]
  split
  · next last => simp [last]
  · next more => simp [more]

end Sys2Proof.Machine
end

section
/-! The bulletin in flight: the pick, the launch, the release, the collision and the jabber cut (06, sections 6.5 to 6.7). -/

namespace Sys2Proof.Machine

/-! ### The pick (R107, R116) -/

/-- With nothing in flight the pick is made. -/
theorem pickMade_pick {s : State} (h : s.bus.flight = none) : PickMade (pick s) := by
  have made : (pick s).bus.flight = if s.bus.enabled = true then (nextSlot s.duplicate s.bus).map fun k => { slot := k } else none := by
    rw [pick_spec, h]
    simp
  unfold PickMade
  rw [made]
  simp only [pick_slots, show (pick s).duplicate = s.duplicate by rw [pick_spec], show (pick s).bus.enabled = s.bus.enabled by rw [pick_spec]]
  unfold nextSlot
  cases s.bus.enabled <;> cases s.duplicate <;> cases s.bus.hold <;> cases s.bus.timing <;> cases s.bus.intro <;>
    cases s.bus.reports <;> simp

theorem pick_of_flight' {s : State} (h : s.bus.flight.isSome = true) : pick s = s := by
  obtain ⟨f, h⟩ := Option.isSome_iff_exists.mp h
  exact pick_of_flight s f h

/-- A pick already made is made again to the same effect. -/
theorem pick_pick (s : State) : pick (pick s) = pick s := by
  cases h : (pick s).bus.flight with
  | some f => exact pick_of_flight _ f h
  | none =>
    rw [pick_spec s] at h ⊢
    rw [pick_spec]
    dsimp only at h ⊢
    congr 2
    split at h
    · next open_ => simp only [h, open_, and_self, if_true]; exact h
    · next closed => simp [h, show ¬ s.bus.enabled = true from fun e => closed ⟨h, e⟩]

theorem pick_disabled {s : State} (h : s.bus.enabled = false) : pick s = s := by simp [pick, h]

/-! ### The end of a flight (R106, R109, R112) -/

theorem holdBulletin_eq (number n : Nat) (small : number < 16) :
    holdBulletin number n = [BitVec.ofNat 8 (48 + number), 0xFF#8, BitVec.ofNat 8 n] := by
  simp [holdBulletin, header, Nat.mod_eq_of_lt small]

theorem State.number_lt (s : State) : s.number < 16 := s.loader.strap.isLt

/-- What a bulletin's leaving its slot comes to, before any pick: the slot is empty or takes the deferred HOLD. -/
structure FlightGone (k : Slot) (s u : State) : Prop where
  flight : u.bus.flight = none
  ends : FlightEnds k s u
  slots : SlotsOnly s.bus u
  only : OnlyBus s u

/-- The part with `x` in the place of a HOLD that has been in flight, and no HOLD deferred. -/
def State.holdGone (s : State) (x : Option Bulletin) : State :=
  { s with bus := { s.bus with hold := x, flight := none }, steer := { s.steer with deferredHold := none } }

/-- The HOLD that takes the place of one that has gone (R106). -/
def State.nextHold (s : State) : Option Bulletin :=
  if s.standalone = true ∨ s.duplicate = true then none else s.steer.deferredHold.map (holdBulletin s.number)

theorem holdGone_gone (s : State) : FlightGone .hold s (s.holdGone s.nextHold) := by
  refine ⟨rfl, ⟨rfl, rfl, rfl, ?_, rfl⟩, rfl, rfl⟩
  simp only [State.holdGone, State.nextHold, ne_eq, not_true_eq_false, if_false]
  split
  · rfl
  · exact Option.map_congr fun n _ => holdBulletin_eq s.number n s.number_lt

theorem takesTimings_iff (s : State) : s.takesTimings = true ↔ ¬ (s.standalone = true ∨ s.duplicate = true) := by
  simp [State.takesTimings]

theorem endFlight_of_hold (f : Flight) (s : State) (hold : f.slot = .hold) :
    endFlight f s = s.holdGone s.nextHold ∨ endFlight f s = pick (s.holdGone s.nextHold) := by
  have emptied : endFlight f s = submitDeferred { s with bus := { s.bus with hold := none, flight := none } } := by
    unfold endFlight
    rw [hold, if_pos rfl]
    rfl
  rw [emptied, State.nextHold]
  cases deferred : s.steer.deferredHold with
  | none =>
    left
    have steer : { s.steer with deferredHold := none } = s.steer := by rw [← deferred]
    rw [State.holdGone, Option.map_none, ite_self, steer]
    exact submitDeferred_none _ deferred
  | some n =>
    have submitted : submitDeferred { s with bus := { s.bus with hold := none, flight := none } }
        = submitHold n (s.holdGone none) := by simp only [submitDeferred, deferred]; rfl
    rw [submitted, submitHold]
    by_cases silent : s.standalone = true ∨ s.duplicate = true
    · have refuses : (s.holdGone none).takesTimings = false :=
        Bool.eq_false_iff.mpr fun h => (takesTimings_iff (s.holdGone none)).mp h silent
      left
      rw [if_pos silent, if_pos (by simp [refuses])]
    · have takes : (s.holdGone none).takesTimings = true := (takesTimings_iff (s.holdGone none)).mpr silent
      right
      rw [if_neg silent, if_neg (by simp [takes]), if_neg (by simp [State.holdGone])]
      rfl

theorem endFlight_gone (f : Flight) (s : State) :
    ∃ u, FlightGone f.slot s u ∧ (endFlight f s = u ∨ endFlight f s = pick u) := by
  by_cases hold : f.slot = .hold
  · exact ⟨s.holdGone s.nextHold, hold ▸ holdGone_gone s, endFlight_of_hold f s hold⟩
  · refine ⟨{ s with bus := { s.bus.emptied f.slot with flight := none } }, ⟨rfl, ⟨?_, ?_, ?_, ?_, ?_⟩, ?_, rfl⟩,
      .inl (endFlight_of_ne f s hold)⟩
    all_goals cases e : f.slot <;> simp_all [Bus.emptied, SlotsOnly]

/-- So a pick that follows is made on what the flight's end leaves. -/
theorem pick_endFlight (f : Flight) (s : State) : ∃ u, FlightGone f.slot s u ∧ pick (endFlight f s) = pick u := by
  obtain ⟨u, gone, e | e⟩ := endFlight_gone f s
  · exact ⟨u, gone, congrArg pick e⟩
  · exact ⟨u, gone, (congrArg pick e).trans (pick_pick u)⟩

theorem FlightEnds.pick {k : Slot} {s u : State} (h : FlightEnds k s u) : FlightEnds k s (pick u) := by
  unfold FlightEnds at h ⊢
  rw [pick_spec]
  exact h

theorem SlotsOnly.pick {b : Bus} {u : State} (h : SlotsOnly b u) : SlotsOnly b (pick u) := by
  unfold SlotsOnly at h ⊢
  rw [pick_spec]
  dsimp only
  rw [h]

theorem OnlyBus.pick {s u : State} (h : OnlyBus s u) : OnlyBus s (pick u) := by
  unfold OnlyBus at h ⊢
  rw [pick_spec]
  exact h

end Sys2Proof.Machine
end

section
/-! The commands of the bus interface, and what a period of the clockwork brings about there (06). -/

namespace Sys2Proof.Machine

/-! ### The commands a period brings about -/

theorem mem_received {s : State} {c : Instr} (h : c ∈ s.received) :
    (∃ xs, c = .frameEnd xs) ∨ c = .startDelimiter ∨ c = .invertedDelimiter := by
  unfold State.received at h
  split at h
  · unfold bitTimeCommand at h
    split at h
    · simp at h
    · split at h
      · simp at h; exact .inl ⟨_, h⟩
      · split at h
        · simp at h
        · split at h <;> simp at h <;> simp [h]
  · cases h

theorem mem_sendingEvents {s : State} {c : Instr} (h : c ∈ s.sendingEvents) : c = .collision ∨ c = .transmissionRelease := by
  unfold State.sendingEvents at h
  split at h
  · cases h
  · split at h
    · split at h
      · exact .inl (List.mem_singleton.mp h)
      · split at h
        · exact .inr (List.mem_singleton.mp h)
        · cases h
    · cases h

theorem mem_bitTimeFlightEvents {b : Bus} {q : Nat} {c : Instr} (h : c ∈ b.bitTimeFlightEvents q) :
    c = .backoffExpiry ∨ c = .launch := by
  unfold Bus.bitTimeFlightEvents at h
  split at h
  · cases h
  · split at h
    · split at h
      · exact .inl (List.mem_singleton.mp h)
      · cases h
    · split at h
      · exact .inr (List.mem_singleton.mp h)
      · cases h

theorem mem_bitTimeEvents (b : Bus) (sense : Bool) (c : Instr) :
    c ∈ b.bitTimeEvents sense ↔
      (c = .carrierIdle ∧ b.busy = true ∧ Config.idleQuiet ≤ (b.bitTimeEnded sense).quiet)
        ∨ (c = .jabberCutoff ∧ (b.bitTimeEnded sense).driveRun = Config.jabberRun ∧ b.jabber = false)
        ∨ c ∈ b.bitTimeFlightEvents (b.bitTimeEnded sense).quiet := by
  simp only [Bus.bitTimeEvents, List.mem_append, List.mem_ite_nil_right, List.mem_singleton, Bool.and_eq_true,
    decide_eq_true_eq]
  tauto

/-- Which commands the end of a bit time may bring about. -/
theorem bitTimeEvents_only {b : Bus} {sense : Bool} {c : Instr} (h : c ∈ b.bitTimeEvents sense) :
    c = .carrierIdle ∨ c = .jabberCutoff ∨ c = .backoffExpiry ∨ c = .launch := by
  rcases (mem_bitTimeEvents b sense c).mp h with ⟨e, -⟩ | ⟨e, -⟩ | m
  · exact .inl e
  · exact .inr (.inl e)
  · exact .inr (.inr (mem_bitTimeFlightEvents m))

/-- The idle step's commands of the end of a bit time. -/
theorem BusIdling.step_bitTime {s : State} (h : BusIdling s) :
    ∃ t, step s = .next t
      ∧ t.bus = (if endsBitTime s then s.inputsTaken.carrierCounted.bitTimeEnded s.pins.driveSense
          else s.inputsTaken.carrierCounted)
      ∧ ∀ c ∈ [Instr.carrierIdle, .jabberCutoff, .backoffExpiry, .launch],
          c ∈ t.due ↔ endsBitTime s = true ∧ c ∈ s.inputsTaken.carrierCounted.bitTimeEvents s.pins.driveSense := by
  obtain ⟨t, e, bus, -, due⟩ := h.step_spec
  refine ⟨t, e, bus, fun c member => ?_⟩
  have ofBus : OfBus c := by
    simp only [List.mem_cons, List.not_mem_nil, or_false] at member
    rcases member with rfl | rfl | rfl | rfl <;> exact ⟨rfl, nofun, nofun⟩
  have notReceived : c ∉ s.inputsTaken.received := fun m => by
    rcases mem_received m with ⟨xs, rfl⟩ | rfl | rfl <;> simp at member
  have notSent : c ∉ s.inputsTaken.sendingEvents := fun m => by
    rcases mem_sendingEvents m with rfl | rfl <;> simp at member
  rw [due c ofBus]
  simp only [notReceived, notSent, false_or]

/-- The idle step's commands of the transmit path. -/
theorem BusIdling.step_sending {s : State} (h : BusIdling s) :
    ∃ t, step s = .next t
      ∧ t.bus = (if endsBitTime s then s.inputsTaken.carrierCounted.bitTimeEnded s.pins.driveSense
          else s.inputsTaken.carrierCounted)
      ∧ ∀ c ∈ [Instr.collision, .transmissionRelease], c ∈ t.due ↔ c ∈ s.inputsTaken.sendingEvents := by
  obtain ⟨t, e, bus, -, due⟩ := h.step_spec
  refine ⟨t, e, bus, fun c member => ?_⟩
  have ofBus : OfBus c := by
    simp only [List.mem_cons, List.not_mem_nil, or_false] at member
    rcases member with rfl | rfl <;> exact ⟨rfl, nofun, nofun⟩
  have notReceived : c ∉ s.inputsTaken.received := fun m => by
    rcases mem_received m with ⟨xs, rfl⟩ | rfl | rfl <;> simp at member
  have notEnded : ∀ b sense, c ∉ Bus.bitTimeEvents b sense := fun b sense m => by
    rcases bitTimeEvents_only m with rfl | rfl | rfl | rfl <;> simp at member
  rw [due c ofBus]
  simp only [notReceived, notEnded, and_false, false_or, or_false]

/-- A transition in the period, as the carrier's count takes it (R103; log 31). -/
theorem busEdge_inputsTaken (s : State) : busEdge s.inputsTaken = transition s := by
  unfold busEdge pairEdge driverEdge transition
  rw [State.inputsTaken_bus, State.inputsTaken_pins]
  cases s.bus.flight <;> rfl

/-- With nothing in SENDING the bulletin in flight stands through the transmit path. -/
theorem flown_of_not_sending {s : State} {f : Flight} (flight : s.bus.flight = some f) (h : f.phase ≠ .sending) :
    s.inputsTaken.flown = some f := by
  simp [State.flown, State.inputsTaken_bus, flight, h]

theorem flown_of_sending {s : State} {f : Flight} (flight : s.bus.flight = some f) (h : f.phase = .sending) :
    s.inputsTaken.flown = some (s.sentOn f) := by
  simp only [State.flown, State.inputsTaken_bus, flight, Option.map_some, h, if_true, State.sentOn, readBack,
    State.inputsTaken_pins]

/-! ### The launch (R109) -/

theorem wireLevel_zero (octets : List Octet) : wireLevel octets 0 = some true := by
  simp [wireLevel, wireSamples, preamble, bitHalves, Config.bitTime]

theorem launchStampOf_stampTiming {t : Nat} {x : Bulletin} (small : t < 32768) (long : 4 ≤ x.length) :
    launchStampOf (stampTiming t x) = t := by
  have two : 2 < x.length := by omega
  have three : 3 < x.length := by omega
  simp [launchStampOf, octetAt, stampTiming, List.getD_eq_getElem?_getD, two, three]
  omega

theorem stampTiming_octet3 (t : Nat) (x : Bulletin) (long : 4 ≤ x.length) : octetAt (stampTiming t x) 3 < 128 := by
  have three : 3 < x.length := by omega
  simp [octetAt, stampTiming, List.getD_eq_getElem?_getD, three]
  omega

theorem stampTiming_frame (t : Nat) (x : Bulletin) :
    (stampTiming t x).length = x.length ∧ (stampTiming t x).take 2 = x.take 2 ∧ (stampTiming t x).drop 4 = x.drop 4 := by
  simp [stampTiming, List.drop_set_of_lt, List.take_set_of_le]

/-- In a normal frame the launch stamp is 1024 fu ahead, within the frame or in the next (R63, R77). -/
theorem launchStamp_normal {s : State} (normal : s.floor.kind = .normal) (inside : s.floor.time < 32768) :
    launchStamp s = if s.floor.time < 31744 then s.floor.time + 1024 else s.floor.time + 1024 - 32768 := by
  simp only [launchStamp, Floor.timeAhead, Floor.left, normal, Config.bitTime]
  split <;> split <;> omega

/-- Settles O40: the command by `launchFlight`, the clockwork by the end of a bit time. -/
theorem launchStampsAndSends : Obligations.LaunchStampsAndSends := by
  intro f s
  constructor
  · intro running pair enabled flight gap
    have on : s.onBusNow = true := by simp [State.onBusNow, running, pair]
    have launched : exec .launch s = .next (launchFlight f s) := by
      change execLaunch s = _
      simp [execLaunch, flight, on, gap, enabled]
    have driven : (launchFlight f s).busDriver = some true := by
      simp [State.busDriver, launchFlight, State.onBus, wireLevel_zero]
    refine ⟨_, launched, rfl, rfl, driven, fun other => if_neg other, fun timing x held long => ?_⟩
    obtain ⟨length, take, drop⟩ := stampTiming_frame (launchStamp s) x
    refine ⟨stampTiming (launchStamp s) x, ?_, length, take, drop, ?_, ?_, fun _ => stampTiming_octet3 _ x long⟩
    · simp [launchFlight, State.onBus, timing, held]
    · intro normal early
      have stamp := launchStamp_normal normal (by omega)
      rw [if_pos early] at stamp
      rw [launchStampOf_stampTiming (by omega) long, stamp]
    · intro normal late inside
      have stamp := launchStamp_normal normal inside
      rw [if_neg (by omega)] at stamp
      rw [launchStampOf_stampTiming (by omega) long, stamp]
  · intro idling flight gap
    obtain ⟨t, e, bus, due⟩ := idling.step_bitTime
    have flown := flown_of_not_sending flight (by simp [gap])
    have stands : f.backedOff = f := by simp [Flight.backedOff, gap]
    refine ⟨t, e, ?_, ?_⟩
    · rw [bus]
      split <;> simp [Bus.bitTimeEnded, State.carrierCounted, flown, stands]
    · rw [due .launch (by simp), bus, mem_bitTimeEvents]
      refine and_congr_right fun ends => ?_
      have events : ∀ q, Instr.launch ∈ s.inputsTaken.carrierCounted.bitTimeFlightEvents q
          ↔ q = 28 ∧ s.bus.enabled = true := fun q => by
        simp [Bus.bitTimeFlightEvents, State.carrierCounted, flown, gap, Config.launchQuiet, State.inputsTaken_bus]
      simp only [reduceCtorEq, false_and, false_or, events, ends, if_true]

end Sys2Proof.Machine
end

section
/-! The release, the collision, the jabber cut, and the carrier (06, sections 6.2 and 6.5 to 6.7). -/

namespace Sys2Proof.Machine

/-! ### The echo check (R113) -/

/-- The part with an echo judged: the miss count, ECHO, and its latched flag (R113, R164). -/
def State.echoJudged (s : State) (good : Bool) : State :=
  { s with
    bus := { s.bus with
      echoMiss := if good then 0 else bump 4 s.bus.echoMiss, echo := !good && (s.bus.echo || decide (3 ≤ s.bus.echoMiss)) }
    flags := { s.flags with echo := s.flags.echo || (!good && !s.bus.echo && decide (3 ≤ s.bus.echoMiss)) } }

theorem judgeEcho_eq (good : Bool) (s : State) : judgeEcho good s = s.echoJudged good := by
  unfold judgeEcho State.echoJudged
  cases good
  · cases live : s.bus.echo <;> cases due : decide (3 ≤ s.bus.echoMiss) <;>
      simp [due, State.onBus]
  · simp [State.onBus]

/-- All that the echo check at a release does. -/
theorem echoAtRelease_cases (s : State) :
    (∃ good, s.bus.echoResult = some good
        ∧ echoAtRelease s = ({ s with bus := { s.bus with echoResult := none } } : State).echoJudged good)
      ∨ (s.bus.echoResult = none ∧ (∃ r, s.bus.frame = some r ∧ r.ownEcho = true)
        ∧ echoAtRelease s = { s with bus := { s.bus with echoAwaited := true } })
      ∨ (s.bus.echoResult = none ∧ (∀ r, s.bus.frame = some r → r.ownEcho = false) ∧ echoAtRelease s = s.echoJudged false) := by
  unfold echoAtRelease
  cases result : s.bus.echoResult with
  | some good => exact .inl ⟨good, rfl, judgeEcho_eq _ _⟩
  | none =>
    right
    cases frame : s.bus.frame with
    | none => exact .inr ⟨rfl, nofun, judgeEcho_eq _ _⟩
    | some r =>
      cases own : r.ownEcho with
      | true => exact .inl ⟨rfl, ⟨r, rfl, own⟩, by simp only [own, if_true]; rfl⟩
      | false =>
        refine .inr ⟨rfl, fun q e => (Option.some.inj e) ▸ own, ?_⟩
        simp only [own, Bool.false_eq_true, if_false, judgeEcho_eq]

/-- Between `s` and `u` a bulletin has been released: nothing differs outside its slot but the carrier's count and the echo. -/
theorem execTransmissionRelease_eq {s : State} {f : Flight} (flight : s.bus.flight = some f) (sending : f.phase = .sending) :
    execTransmissionRelease s
      = .next (pick (endFlight f ((echoAtRelease s).onBus fun b => { b with quiet := 0, busy := true }))) := by
  simp [execTransmissionRelease, flight, sending]

/-- The part as its echo check leaves it at a release, the carrier's count started again. -/
def State.echoChecked (s : State) (miss : Nat) (echo awaited flag : Bool) : State :=
  { s with
    bus := { s.bus with
      quiet := 0, busy := true, echoResult := none, echoMiss := miss, echo := echo, echoAwaited := awaited }
    flags := { s.flags with echo := flag } }

/-- What a release leaves, with the echo check's part given. -/
theorem transmissionRelease_spec (k : Slot) (s u : State) (miss : Nat) (echo awaited flag : Bool)
    (gone : FlightGone k (s.echoChecked miss echo awaited flag) u) :
    FlightEnds k s (pick u) ∧ PickMade (pick u)
      ∧ SlotsOnly { s.bus with
          quiet := 0, busy := true, echoResult := none, echoMiss := (pick u).bus.echoMiss, echo := (pick u).bus.echo
          echoAwaited := (pick u).bus.echoAwaited } (pick u)
      ∧ ((pick u).bus.echoMiss = miss ∧ (pick u).bus.echo = echo ∧ (pick u).flags.echo = flag
        ∧ (pick u).bus.echoAwaited = awaited)
      ∧ (pick u).flags.jabber = s.flags.jabber ∧ (pick u).flags.contend = s.flags.contend ∧ OnlyBusAndFlags s (pick u) := by
  have slots := gone.slots.pick
  have only := gone.only.pick
  have flags : (pick u).flags = { s.flags with echo := flag } := (congrArg State.flags only :)
  have missed : (pick u).bus.echoMiss = miss := (congrArg Bus.echoMiss slots :)
  have live : (pick u).bus.echo = echo := (congrArg Bus.echo slots :)
  have waits : (pick u).bus.echoAwaited = awaited := (congrArg Bus.echoAwaited slots :)
  refine ⟨gone.ends.pick, pickMade_pick gone.flight, ?_, ⟨missed, live, by rw [flags], waits⟩, by rw [flags], by rw [flags], ?_⟩
  · rw [missed, live, waits]
    exact slots
  · exact (congrArg (fun x : State => { x with
      bus := s.bus, flags := { x.flags with echo := s.flags.echo, jabber := s.flags.jabber, contend := s.flags.contend } }) only :)

/-! ### The wire (R100, R101) -/

theorem wireSamples_length (octets : List Octet) : (wireSamples octets).length = octets.length * 8 + 26 := by
  have bits : (octets.flatMap octetBits).length = octets.length * 8 := by
    induction octets with
    | nil => rfl
    | cons o octets ih => simp [ih]; omega
  simp [wireSamples, preamble, startMark, bodySamples, endMark, bits]

theorem wireLevel_after (octets : List Octet) (k : Nat) (h : (octets.length * 8 + 26) * 64 ≤ k) : wireLevel octets k = none := by
  have beyond : (wireSamples octets).length ≤ k / 64 := by
    rw [wireSamples_length]
    omega
  simp [wireLevel, Config.bitTime, beyond]

theorem wireLevel_halves (octets : List Octet) (k : Nat) (h : Bool × Bool) (at_ : (wireSamples octets)[k]? = some h) (i : Nat)
    (inside : i < 32) : wireLevel octets (64 * k + i) = some h.1 ∧ wireLevel octets (64 * k + 32 + i) = some h.2 := by
  have first : (64 * k + i) / 64 = k ∧ (64 * k + i) % 64 = i := by omega
  have second : (64 * k + 32 + i) / 64 = k ∧ (64 * k + 32 + i) % 64 = 32 + i := by omega
  simp [wireLevel, Config.bitTime, first, second, at_, inside]

theorem backedOff_of_sending {f : Flight} (h : f.phase = .sending) : f.backedOff = f := by simp [Flight.backedOff, h]

/-- The bulletin in SENDING after the idle step. -/
theorem flight_of_sending {s : State} {t : State} {f : Flight} (flight : s.bus.flight = some f) (sending : f.phase = .sending)
    (bus : t.bus = if endsBitTime s then s.inputsTaken.carrierCounted.bitTimeEnded s.pins.driveSense
      else s.inputsTaken.carrierCounted) : t.bus.flight = some (s.sentOn f) := by
  have flown := flown_of_sending flight sending
  have stands : (s.sentOn f).backedOff = s.sentOn f := backedOff_of_sending sending
  rw [bus]
  split <;> simp [Bus.bitTimeEnded, State.carrierCounted, flown, stands]

/-- The wire's content stands through the idle step. -/
theorem content_of_step {s t : State}
    (bus : t.bus = if endsBitTime s then s.inputsTaken.carrierCounted.bitTimeEnded s.pins.driveSense
      else s.inputsTaken.carrierCounted) (k : Slot) : t.bus.content k = s.bus.content k := by
  rw [bus]
  split <;> cases k <;> simp [Bus.content, Bus.bitTimeEnded, State.carrierCounted, State.inputsTaken_bus]

theorem sendingEvents_of_sending {s : State} {f : Flight} (flight : s.bus.flight = some f) (sending : f.phase = .sending) :
    s.inputsTaken.sendingEvents = if (s.sentOn f).stop = some (f.sent + 1) then [.collision]
      else if f.sent + 1 = s.bus.wireTime f then [.transmissionRelease] else [] := by
  simp only [State.sendingEvents, State.inputsTaken_bus, flight, sending, if_true, State.sentOn, readBack, State.inputsTaken_pins]

/-- Settles O41: the command by `transmissionRelease_spec`, with the echo check's cases; the clockwork by the transmit path. -/
theorem releaseEndsFlight : Obligations.ReleaseEndsFlight := by
  intro f s flight sending
  refine ⟨fun few => ?command, fun idling clear => ?clockwork, wireLevel_after, fun octets k h at_ i inside =>
    wireLevel_halves octets k h at_ i inside⟩
  case command =>
    have bumped : bump 4 s.bus.echoMiss = min 4 (s.bus.echoMiss + 1) := bump_spec 4 _ few
    obtain ⟨u, gone, picked⟩ := pick_endFlight f ((echoAtRelease s).onBus fun b => { b with quiet := 0, busy := true })
    refine ⟨pick u, picked ▸ execTransmissionRelease_eq flight sending, ?_⟩
    rcases echoAtRelease_cases s with ⟨good, result, e⟩ | ⟨result, own, e⟩ | ⟨result, other, e⟩ <;> rw [e] at gone
    · obtain ⟨ends, made, slots, ⟨missed, live, latched, waits⟩, rest⟩ :=
        transmissionRelease_spec f.slot s u _ _ s.bus.echoAwaited _ gone
      refine ⟨ends, made, slots, fun h => ?_, fun h => ?_, fun h => ?_, rest⟩
      · obtain rfl : good = true := Option.some.inj (result.symm.trans h)
        exact ⟨missed, live, by rw [latched]; simp, waits⟩
      · exact absurd (result.symm.trans h) nofun
      · rcases h with h | ⟨h, -⟩
        · obtain rfl : good = false := Option.some.inj (result.symm.trans h)
          exact ⟨missed.trans bumped, live, latched, waits⟩
        · exact absurd (result.symm.trans h) nofun
    · have shape : ({ s with bus := { s.bus with echoAwaited := true } } : State).onBus
          (fun b => { b with quiet := 0, busy := true }) = s.echoChecked s.bus.echoMiss s.bus.echo true s.flags.echo := by
        rw [State.echoChecked, ← result]
        rfl
      obtain ⟨ends, made, slots, ⟨missed, live, latched, waits⟩, rest⟩ :=
        transmissionRelease_spec f.slot s u _ _ _ _ (shape ▸ gone)
      refine ⟨ends, made, slots, fun h => ?_, fun _ _ => ⟨missed, live, latched, waits⟩, fun h => ?_, rest⟩
      · exact absurd (result.symm.trans h) nofun
      · obtain ⟨r, frame, mine⟩ := own
        rcases h with h | ⟨-, h⟩
        · exact absurd (result.symm.trans h) nofun
        · exact absurd (mine.symm.trans (h r frame)) nofun
    · have shape : (s.echoJudged false).onBus (fun b => { b with quiet := 0, busy := true })
          = s.echoChecked (bump 4 s.bus.echoMiss) (s.bus.echo || decide (3 ≤ s.bus.echoMiss)) s.bus.echoAwaited
            (s.flags.echo || (!s.bus.echo && decide (3 ≤ s.bus.echoMiss))) := by
        rw [State.echoChecked, ← result]
        rfl
      obtain ⟨ends, made, slots, ⟨missed, live, latched, waits⟩, rest⟩ :=
        transmissionRelease_spec f.slot s u _ _ _ _ (shape ▸ gone)
      refine ⟨ends, made, slots, fun h => ?_, fun _ ⟨r, frame, mine⟩ => ?_, fun _ => ⟨missed.trans bumped, live, latched, waits⟩,
        rest⟩
      · exact absurd (result.symm.trans h) nofun
      · exact absurd (mine.symm.trans (other r frame)) nofun
  case clockwork =>
    obtain ⟨t, e, bus, due⟩ := idling.step_sending
    have flies := flight_of_sending flight sending bus
    refine ⟨t, e, by rw [flies]; rfl, fun agrees => ?_⟩
    have stop : (s.sentOn f).stop = none := by
      have same : readBack s f (s.bus.wire f) (f.sent + 1) (s.bus.wireTime f) = f.stop := by
        rcases readBack_cases s f (s.bus.wire f) (f.sent + 1) (s.bus.wireTime f) with h | ⟨-, -, differs, -⟩
        · exact h
        · exact absurd agrees differs
      exact same.trans clear
    have on : s.sentOn f = { f with sent := f.sent + 1 } := by
      rw [show s.sentOn f = { f with sent := f.sent + 1, stop := (s.sentOn f).stop } from rfl, stop, ← clear]
    have events := sendingEvents_of_sending flight sending
    rw [stop, if_neg nofun] at events
    refine ⟨by rw [flies, on], ?_, ?_, ?_⟩
    · rw [due .collision (by simp), events]
      split <;> simp
    · rw [due .transmissionRelease (by simp), events]
      split
      · next last => exact iff_of_true (by simp) last
      · next more => exact iff_of_false (by simp) more
    · simp only [State.busDriver, flies, content_of_step bus]
      simp [on, sending]

end Sys2Proof.Machine
end

section
/-! Collisions, jabber, delimiters and the idle carrier (06, sections 6.2 to 6.4, 6.6 and 6.7). -/

namespace Sys2Proof.Machine

/-! ### Collisions and backoff (R110 to R112) -/

theorem exec_collision_of_sending {s : State} {f : Flight} (flight : s.bus.flight = some f) (sending : f.phase = .sending) :
    exec .collision s = .next (collide f s) := by
  change execCollision s = _
  simp [execCollision, flight, sending]

/-- A bulletin that may try again waits for its backoff. -/
theorem collide_backoff {s : State} {f : Flight} (kept : f.kept = false) (few : f.attempts < 16)
    (loud : s.duplicate = false ∨ f.slot = .report) :
    collide f s = { s with bus := { s.bus with
      echoResult := none, flight := some { f with phase := .backoff, backoff := backoffTime s.number f.attempts } } } := by
  have allowed : (s.duplicate && f.slot != .report) = false := by rcases loud with h | h <;> simp [h]
  unfold collide
  dsimp only
  rw [if_neg (by simp [kept]), if_neg (by simp [Config.attemptLimit]; omega),
    if_neg (by simp only [State.onBus]; rw [allowed]; simp)]
  rfl

/-- The part as a collision that ends the flight finds it: the sixteenth is counted and latches CONTEND (R112). -/
def State.contended (s : State) (counted : Bool) : State :=
  { s with
    bus := { s.bus with echoResult := none, contention := if counted then bump 65535 s.bus.contention else s.bus.contention }
    flags := { s.flags with contend := s.flags.contend || counted } }

/-- A bulletin that may not leaves its slot. -/
theorem collide_drop {s : State} {f : Flight}
    (gone : f.kept = true ∨ 16 ≤ f.attempts ∨ (s.duplicate = true ∧ f.slot ≠ .report)) :
    collide f s = pick (endFlight f (s.contended (!f.kept && decide (16 ≤ f.attempts)))) := by
  unfold collide
  dsimp only
  cases kept : f.kept with
  | true =>
    rw [if_pos rfl]
    simp [State.contended, State.onBus]
  | false =>
    rw [if_neg nofun]
    by_cases last : 16 ≤ f.attempts
    · rw [if_pos (show Config.attemptLimit ≤ f.attempts from last)]
      simp [State.contended, State.onBus, contentionDrop, last]
    · have silent : s.duplicate = true ∧ f.slot ≠ .report := by
        rcases gone with h | h | h
        · exact absurd (kept.symm.trans h) nofun
        · exact absurd h last
        · exact h
      rw [if_neg (show ¬ Config.attemptLimit ≤ f.attempts from last), if_pos (by simp [State.onBus, silent.1, silent.2])]
      simp [State.contended, State.onBus, last]

/-- Settles O42: the commands by `collide_backoff` and `collide_drop`, the clockwork by the transmit path and the bit times. -/
theorem collisionBacksOffOrDrops : Obligations.CollisionBacksOffOrDrops := by
  intro f s flight
  refine ⟨fun sending kept few loud => ?backoff, fun sending gone => ?drop, fun waits => ?expiry, fun idling sending => ?readBack,
    fun idling waits => ?count⟩
  case backoff => rw [exec_collision_of_sending flight sending, collide_backoff kept few loud]; rfl
  case drop =>
    obtain ⟨u, left, picked⟩ := pick_endFlight f (s.contended (!f.kept && decide (16 ≤ f.attempts)))
    have slots := left.slots.pick
    have only := left.only.pick
    have contention : (pick u).bus.contention
        = if (!f.kept && decide (16 ≤ f.attempts)) = true then bump 65535 s.bus.contention else s.bus.contention :=
      (congrArg Bus.contention slots :)
    have flags : (pick u).flags = { s.flags with contend := s.flags.contend || (!f.kept && decide (16 ≤ f.attempts)) } :=
      (congrArg State.flags only :)
    have taken : exec .collision s = .next (pick u) := by
      rw [exec_collision_of_sending flight sending, collide_drop gone, picked]
    refine ⟨pick u, taken, left.ends.pick, pickMade_pick left.flight, ?_, ?_, by rw [flags], by rw [flags], by rw [flags], ?_⟩
    · rw [contention]
      exact slots
    · rw [contention]
      unfold bump
      cases f.kept <;> by_cases h : 16 ≤ f.attempts <;> simp [h]
    · exact (congrArg (fun x : State => { x with
        bus := s.bus, flags := { x.flags with echo := s.flags.echo, jabber := s.flags.jabber, contend := s.flags.contend } }) only :)
  case expiry =>
    change execBackoffExpiry s = _
    simp [execBackoffExpiry, flight, waits, State.onBus]
  case readBack =>
    obtain ⟨t, e, bus, due⟩ := idling.step_sending
    have events := sendingEvents_of_sending flight sending
    refine ⟨t, e, s.sentOn f, flight_of_sending flight sending bus, rfl, fun n stop => ?_, fun clear quiet => ?_,
      fun clear centre differs => ?_, ?_⟩
    · rcases readBack_cases s f (s.bus.wire f) (f.sent + 1) (s.bus.wireTime f) with h | ⟨h, -⟩
      · exact h.trans stop
      · exact absurd (h.symm.trans stop) nofun
    · rcases readBack_cases s f (s.bus.wire f) (f.sent + 1) (s.bus.wireTime f) with h | ⟨-, centre, differs, -⟩
      · exact h.trans clear
      · exact absurd quiet (by simp only [not_or, not_not]; exact ⟨centre, differs⟩)
    · have found : (f.stop.isNone && (f.sent + 1) % 32 == 16
          && s.pins.senseLevel != wireLevel (withCheck (s.bus.content f.slot)) (f.sent + 1)) = true := by
        simp [clear, centre, differs]
      exact (if_pos found).trans (by rw [Nat.mul_comm 64 ((f.sent + 1) / 64 + 2)]; rfl)
    · rw [due .collision (by simp), events]
      split
      · next stop => exact iff_of_true (by simp) stop
      · next goes =>
        refine iff_of_false ?_ goes
        split <;> simp
  case count =>
    obtain ⟨t, e, bus, due⟩ := idling.step_bitTime
    have flown := flown_of_not_sending flight (by simp [waits])
    refine ⟨t, e, ?_, ?_⟩
    · have stepped : f.backedOff = { f with backoff := f.backoff - 1 } := by
        unfold Flight.backedOff
        split
        · rfl
        · next none =>
          have zero : f.backoff = 0 := by
            by_contra h
            exact none ⟨waits, Nat.pos_of_ne_zero h⟩
          rw [show f.backoff - 1 = f.backoff by omega]
      rw [bus]
      split <;> simp [Bus.bitTimeEnded, State.carrierCounted, flown, stepped]
    · rw [due .backoffExpiry (by simp), mem_bitTimeEvents]
      refine and_congr_right fun _ => ?_
      have events : ∀ q, Instr.backoffExpiry ∈ s.inputsTaken.carrierCounted.bitTimeFlightEvents q ↔ f.backoff = 1 := fun q => by
        simp only [Bus.bitTimeFlightEvents, State.carrierCounted, flown, waits, true_and]
        by_cases one : f.backoff = 1
        · simp [one]
        · by_cases pos : 0 < f.backoff <;> simp [one, pos]
      simp only [reduceCtorEq, false_and, false_or, events]

/-! ### Jabber (R114, R115) -/

/-- The part as the jabber cut leaves it, the bulletin in flight aside. -/
def State.jabberRaised (s : State) : State :=
  { s with
    bus := { s.bus with driveRun := 1025, enabled := false, jabber := true, marksSinceCut := 0, echoResult := none }
    flags := { s.flags with jabber := true } }

theorem jabberCut_none {s : State} (h : s.bus.flight = none) : jabberCut s = s.jabberRaised := by
  unfold jabberCut
  dsimp only
  split
  · next f some => exact absurd (h.symm.trans some) nofun
  · rfl

/-- Transmit is disabled, so nothing is picked behind the bulletin that goes. -/
theorem jabberCut_some {s : State} {f : Flight} (h : s.bus.flight = some f) : FlightGone f.slot s.jabberRaised (jabberCut s) := by
  have cut : jabberCut s = endFlight f s.jabberRaised := by
    unfold jabberCut
    dsimp only
    split
    · next g some =>
      obtain rfl : f = g := Option.some.inj (h.symm.trans some)
      rfl
    · next none => exact absurd (h.symm.trans none) nofun
  obtain ⟨u, gone, e | e⟩ := endFlight_gone f s.jabberRaised
  · rwa [cut, e]
  · have disabled : u.bus.enabled = false := (congrArg Bus.enabled gone.slots :)
    rwa [cut, e, pick_disabled disabled]

/-- Settles O43: the cut by its two cases, the re-examination by the pick, the clockwork by the end of a bit time. -/
theorem jabberCutsAndReleases : Obligations.JabberCutsAndReleases := by
  intro s running pair
  have on : s.onBusNow = true := by simp [State.onBusNow, running, pair]
  refine ⟨fun quiet => ?cut, fun live low => ?released, fun high => ?stays, fun idling => ?run⟩
  case cut =>
    have taken : exec .jabberCutoff s = .next (jabberCut s) := by
      change execJabberCutoff s = _
      simp [execJabberCutoff, on, quiet]
    refine ⟨jabberCut s, taken, ?_⟩
    cases flight : s.bus.flight with
    | none =>
      rw [jabberCut_none flight]
      exact ⟨rfl, flight, nofun, fun _ => ⟨rfl, rfl, rfl, rfl, rfl⟩, rfl, rfl⟩
    | some f =>
      obtain ⟨none, ends, slots, only⟩ := jabberCut_some flight
      have flags : (jabberCut s).flags = { s.flags with jabber := true } := (congrArg State.flags only :)
      refine ⟨slots, none, fun g e => ?_, nofun, flags, ?_⟩
      · obtain rfl := Option.some.inj e
        exact ends
      · exact (congrArg (fun x : State => { x with
          bus := s.bus, flags := { x.flags with echo := s.flags.echo, jabber := s.flags.jabber, contend := s.flags.contend } })
          only :)
  case released =>
    have taken : exec .jabberReexamination s = .next (pick ((s.took .jabberReexamination).onBus fun b =>
        { b with jabber := false, enabled := true, driveRun := 0 })) := by
      exact congrArg Host.Outcome.next (if_pos (by
        simp only [Bool.and_eq_true, Bool.not_eq_true']
        exact ⟨⟨on, live⟩, low⟩))
    refine ⟨_, taken, ?_, fun none => pickMade_pick none, fun some' => ?_, ?_, ?_⟩
    · rw [pick_spec]; rfl
    · have stands : ∀ u : State, u.bus.flight = s.bus.flight → (pick u).bus.flight = s.bus.flight := fun u same => by
        rw [pick_of_flight' (by rw [same, some']), same]
      exact stands _ rfl
    · rw [pick_spec]; rfl
    · rw [pick_spec]; rfl
  case stays =>
    exact congrArg Host.Outcome.next (if_neg (by
      simp only [Bool.and_eq_true, Bool.not_eq_true', not_and, Bool.not_eq_false]
      exact fun _ => high))
  case run =>
    obtain ⟨t, e, bus, due⟩ := (show BusIdling s from ⟨idling, running, pair⟩).step_bitTime
    have counted : s.inputsTaken.carrierCounted.driveRun = s.bus.driveRun := by simp [State.carrierCounted, State.inputsTaken_bus]
    have jabber : s.inputsTaken.carrierCounted.jabber = s.bus.jabber := by simp [State.carrierCounted, State.inputsTaken_bus]
    refine ⟨t, e, ?_, ?_⟩
    · rw [bus]
      cases endsBitTime s with
      | false => simp [counted]
      | true => cases s.pins.driveSense <;> simp [Bus.bitTimeEnded, counted, bump, Config.jabberRun]
    · rw [due .jabberCutoff (by simp), mem_bitTimeEvents, bus]
      have notFlight : ∀ b q, Instr.jabberCutoff ∉ Bus.bitTimeFlightEvents b q := fun b q m => by
        rcases mem_bitTimeFlightEvents m with h | h <;> cases h
      refine and_congr_right fun ends => ?_
      simp only [reduceCtorEq, false_and, false_or, notFlight, or_false, true_and, jabber, ends, if_true]
      rfl

/-! ### Delimiters and the idle carrier (R103 to R105) -/

/-- Reading against a polarity undoes itself. -/
theorem map_readHalves_eq_iff (inverted : Bool) (x y : List (Bool × Bool)) :
    x.map (readHalves inverted) = y ↔ x = y.map (readHalves inverted) := by
  have twice : readHalves inverted ∘ readHalves inverted = id := by
    funext h
    simp [readHalves]
  constructor
  · rintro rfl
    rw [List.map_map, twice, List.map_id]
  · rintro rfl
    rw [List.map_map, twice, List.map_id]

theorem delimiterIn_normal (inverted : Bool) (x : List (Bool × Bool)) :
    delimiterIn inverted x = some .normal ↔ x = startMark.map (readHalves inverted) := by
  rw [← map_readHalves_eq_iff]
  unfold delimiterIn
  split
  · next h => simp [h]
  · next h => split <;> simp [h]

theorem delimiterMark_of_normal {s : State} {b : BitTime} {bs : List BitTime} (held : s.bus.recovery.recent = b :: bs)
    (normal : (b :: bs).map BitTime.halves = startMark.map (readHalves s.bus.inverted)) : s.delimiterMark = b.mark := by
  have found : s.bus.delimiter = some .normal := (delimiterIn_normal _ _).mpr (held ▸ normal)
  unfold State.delimiterMark
  rw [found, held]

theorem delimiterMark_of_other {s : State}
    (other : s.bus.recovery.recent.map BitTime.halves ≠ startMark.map (readHalves s.bus.inverted)) :
    s.delimiterMark = s.markNow := by
  have found : s.bus.delimiter ≠ some .normal := fun h => other ((delimiterIn_normal _ _).mp h)
  unfold State.delimiterMark
  split
  · next h _ => exact absurd h found
  · rfl

theorem Bus.sending_eq (b : Bus) : b.sending = decide (b.flight.map Flight.phase = some .sending) := by
  unfold Bus.sending
  cases b.flight with
  | none => rfl
  | some f => exact (Bool.beq_eq_decide_eq f.phase .sending).trans (by simp)

theorem frameFails_eq (f : RxFrame) (s : State) :
    frameEnded f false s = State.frameFails { s with bus := { s.bus with frame := none } } f.ownEcho := by
  unfold frameEnded State.frameFails
  dsimp only
  cases f.ownEcho with
  | true =>
    simp only [if_true, Bool.false_and]
    unfold takeEcho State.echoFails
    have same : (s.onBus fun b => { b with frame := none }).bus.echoAwaited = s.bus.echoAwaited := rfl
    simp only [same]
    split
    · rw [judgeEcho_eq]
      rfl
    · rfl
  | false =>
    simp only [Bool.false_eq_true, if_false, takeFrame, accept, Bool.not_false, Bool.true_or, if_true]
    rfl

/-- Settles O44: the delimiters by what is noted of them, CARRIER_IDLE by the frame it breaks, the carrier's count by the
clockwork. -/
theorem delimitersAndIdleCarrier : Obligations.DelimitersAndIdleCarrier := by
  intro s running pair
  have on : s.onBusNow = true := by simp [State.onBusNow, running, pair]
  refine ⟨fun listens none => ⟨fun other => ?now, fun b bs held normal => ?noted, ?inverted⟩, fun r frame => ?broken,
    fun none => ?idle, fun idling => ?carrier⟩
  case now =>
    change execStartDelimiter s = _
    simp only [execStartDelimiter, on, listens, none, Bool.not_false, Option.isNone_none, Bool.and_self, if_true,
      delimiterMark_of_other other, State.onBus, State.markNow, Bus.sending_eq]
    rfl
  case noted =>
    change execStartDelimiter s = _
    simp only [execStartDelimiter, on, listens, none, Bool.not_false, Option.isNone_none, Bool.and_self, if_true,
      delimiterMark_of_normal held normal, State.onBus]
    rfl
  case inverted =>
    change execInvertedDelimiter s = _
    simp only [execInvertedDelimiter, on, listens, none, Bool.not_false, Option.isNone_none, Bool.and_self, if_true, State.onBus]
    by_cases fourth : s.bus.invertedRun = 3 <;> simp [fourth, Recovery.spent]
  case broken =>
    change execCarrierIdle s = _
    simp only [execCarrierIdle, on, if_true, frame, frameFails_eq]
    rfl
  case idle =>
    change execCarrierIdle s = _
    simp only [execCarrierIdle, on, if_true]
    split
    · next f some => exact absurd (none.symm.trans some) nofun
    · rfl
  case carrier =>
    obtain ⟨t, e, bus, due⟩ := (show BusIdling s from ⟨idling, running, pair⟩).step_bitTime
    have edge := busEdge_inputsTaken s
    have quiet : t.bus.quiet = if transition s = true then 0
        else if endsBitTime s = true ∧ s.bus.sawEdge = false ∧ s.bus.quiet < 28 then s.bus.quiet + 1 else s.bus.quiet := by
      rw [bus]
      cases endsBitTime s <;> cases h : transition s <;> cases g : s.bus.sawEdge <;>
        simp [Bus.bitTimeEnded, State.carrierCounted, edge, h, State.inputsTaken_bus, g, bump, Config.launchQuiet]
    have busy : t.bus.busy = (s.bus.busy || transition s) := by
      rw [bus]
      split <;> simp [Bus.bitTimeEnded, State.carrierCounted, edge, State.inputsTaken_bus]
    refine ⟨t, e, quiet, busy, ?_, ?_⟩
    · rw [bus]
      cases endsBitTime s <;> simp [Bus.bitTimeEnded, State.carrierCounted, edge, State.inputsTaken_bus]
    · rw [due .carrierIdle (by simp), mem_bitTimeEvents, bus]
      have notFlight : ∀ b q, Instr.carrierIdle ∉ Bus.bitTimeFlightEvents b q := fun b q m => by
        rcases mem_bitTimeFlightEvents m with h | h <;> cases h
      refine and_congr_right fun ends => ?_
      simp only [reduceCtorEq, false_and, or_false, notFlight, true_and, ends, if_true]
      rfl

end Sys2Proof.Machine
end

section
/-! What is sent on the bus is received (06, sections 6.2 to 6.4). -/

namespace Sys2Proof.Machine

/-! ### A frame in reception (R104, R105) -/

theorem readHalves_bitHalves (inverted b : Bool) : readHalves inverted (bitHalves b) = (b != inverted, !(b != inverted)) := by
  cases inverted <;> cases b <;> rfl

/-- A bit of a frame, whichever way the pair is connected. -/
theorem receiveSample_bit {f : RxFrame} (inverted b : Bool) (clean : f.violation = false) (room : f.octets.length ≠ 64) :
    receiveSample inverted f (readHalves inverted (bitHalves b)) = .going (if f.bits.length = 7
      then { f with octets := f.octets ++ [bitsOctet (f.bits ++ [b])], bits := [] } else { f with bits := f.bits ++ [b] }) := by
  have read : ((b != inverted) != inverted) = b := by cases inverted <;> cases b <;> rfl
  rw [readHalves_bitHalves]
  unfold receiveSample
  dsimp only
  rw [if_neg (by simp [clean]), if_neg (by cases b != inverted <;> nofun), if_neg room, read, List.length_append]
  simp only [List.length_singleton, Nat.reduceEqDiff]
  split <;> rfl

/-- The first violation of an end delimiter. -/
theorem receiveSample_violation {f : RxFrame} (inverted v : Bool) (clean : f.violation = false) :
    receiveSample inverted f (readHalves inverted (v, v)) = .going { f with violation := true } := by
  simp [receiveSample, readHalves, clean]

theorem receive_cons (inverted : Bool) (f : RxFrame) (h : Bool × Bool) (hs : List (Bool × Bool)) :
    receive inverted f (h :: hs) = match receiveSample inverted f h with
      | .going f' => receive inverted f' hs
      | .ended f' good long => .ended f' good long := rfl

theorem receive_append {inverted : Bool} {f f' : RxFrame} {xs : List (Bool × Bool)} (going : receive inverted f xs = .going f')
    (ys : List (Bool × Bool)) : receive inverted f (xs ++ ys) = receive inverted f' ys := by
  induction xs generalizing f with
  | nil => rw [RxStep.going.inj going, List.nil_append]
  | cons x xs ih =>
    rw [List.cons_append, receive_cons]
    rw [receive_cons] at going
    split at going
    · next g e => exact ih going
    · exact absurd going nofun

/-- Bits that end no octet join those in assembly. -/
theorem receive_bits {inverted : Bool} {f : RxFrame} (clean : f.violation = false) (room : f.octets.length ≠ 64) (bs : List Bool)
    (few : f.bits.length + bs.length ≤ 7) :
    receive inverted f ((bs.map bitHalves).map (readHalves inverted)) = .going { f with bits := f.bits ++ bs } := by
  induction bs generalizing f with
  | nil => rw [List.append_nil]; rfl
  | cons b bs ih =>
    rw [List.length_cons] at few
    rw [List.map_cons, List.map_cons, receive_cons, receiveSample_bit inverted b clean room, if_neg (by omega)]
    dsimp only
    rw [ih (by exact clean) (by exact room) (by simp only [List.length_append, List.length_singleton]; omega), List.append_assoc]
    rfl

/-- An octet of a frame. -/
theorem receive_octet {inverted : Bool} {f : RxFrame} (clean : f.violation = false) (room : f.octets.length ≠ 64)
    (whole : f.bits = []) (o : Octet) :
    receive inverted f (((octetBits o).map bitHalves).map (readHalves inverted))
      = .going { f with octets := f.octets ++ [o] } := by
  obtain ⟨bs, b, split⟩ : ∃ bs b, octetBits o = bs ++ [b] :=
    ⟨_, _, (List.dropLast_append_getLast (l := octetBits o) (by simp [octetBits])).symm⟩
  have seven : bs.length = 7 := by
    have := octetBits_length o
    rw [split, List.length_append, List.length_singleton] at this
    omega
  rw [split, List.map_append, List.map_append,
    receive_append (receive_bits clean room bs (by rw [whole, List.length_nil]; omega))]
  rw [List.map_singleton, List.map_singleton, receive_cons, receiveSample_bit inverted b (by exact clean) (by exact room), whole, List.nil_append,
    if_pos seven, ← split, bitsOctet_octetBits]
  rw [← whole]
  rfl

/-- The octets of a frame. -/
theorem receive_octets {inverted : Bool} {f : RxFrame} (clean : f.violation = false) (whole : f.bits = []) (octets : List Octet)
    (room : f.octets.length + octets.length ≤ 64) :
    receive inverted f (((octets.flatMap octetBits).map bitHalves).map (readHalves inverted))
      = .going { f with octets := f.octets ++ octets } := by
  induction octets generalizing f with
  | nil => rw [List.append_nil]; rfl
  | cons o octets ih =>
    rw [List.length_cons] at room
    rw [List.flatMap_cons, List.map_append, List.map_append, receive_append (receive_octet clean (by omega) whole o),
      ih (by exact clean) (by exact whole) (by simp only [List.length_append, List.length_singleton]; omega), List.append_assoc]
    rfl

/-- A frame ends good-framed behind its octets and the two violations, in either polarity. -/
theorem receive_bodySamples {inverted : Bool} {f : RxFrame} (clean : f.violation = false) (whole : f.bits = [])
    (octets : List Octet) (room : f.octets.length + octets.length ≤ 64) (two : 2 ≤ f.octets.length + octets.length) :
    receive inverted f ((bodySamples octets).map (readHalves inverted))
      = .ended { f with octets := f.octets ++ octets, violation := true } true false := by
  unfold bodySamples endMark
  rw [List.map_append, receive_append (receive_octets clean whole octets room)]
  simp only [List.map_cons, List.map_nil, receive_cons]
  rw [receiveSample_violation inverted _ (by exact clean)]
  dsimp only
  rw [receiveSample, if_pos rfl]
  simp [readHalves, whole, two]

theorem readHalves_false : readHalves false = id := by
  funext h
  simp [readHalves]

theorem readHalves_true : readHalves true = fun h => (!h.1, !h.2) := by
  funext h
  simp [readHalves]

/-! ### The delimiters (R101, R105) -/

theorem delimiterIn_inverted (inverted : Bool) (x : List (Bool × Bool)) :
    delimiterIn inverted x = some .inverted ↔ x = startMark.map (readHalves !inverted) := by
  have apart : startMark.map (readHalves !inverted) ≠ startMark.map (readHalves inverted) := by cases inverted <;> decide
  rw [← map_readHalves_eq_iff]
  unfold delimiterIn
  split
  · next normal =>
    refine iff_of_false nofun fun other => apart ?_
    rw [← (map_readHalves_eq_iff _ _ _).mp normal, ← (map_readHalves_eq_iff _ _ _).mp other]
  · split
    · next h => simp [h]
    · next h => simp [h]

/-! ### The recovery of bit times (R100; log 10) -/

theorem recoverHalf_add (now : Nat → Mark) (v : Bool) (m n : Nat) (x : Nat × Bool × Recovery) :
    recoverHalf now v (m + n) x = recoverHalf now v n (recoverHalf now v m x) := by
  induction m generalizing x with
  | zero => rw [Nat.zero_add]; rfl
  | succ m ih =>
    obtain ⟨k, level, r⟩ := x
    rw [Nat.succ_add]
    exact ih _

theorem next_of_locked {r : Recovery} (locked : r.locked = true) (level edge : Bool) (now : Mark) :
    r.next true level edge now = r.follow level edge now := by
  unfold Recovery.next
  rw [if_neg nofun, if_pos locked]

theorem bump_min {m n : Nat} (h : n ≤ m) : bump m n = min m (n + 1) := by
  unfold bump
  split <;> omega

/-- With the bit times found and the level steady, a stretch that reaches neither centre of a half only counts. -/
theorem recoverHalf_steady (now : Nat → Mark) (v : Bool) (n k : Nat) {r : Recovery} (locked : r.locked = true)
    (since : r.since ≤ 81) (span : r.phase + n < 16 ∨ (16 ≤ r.phase ∧ r.phase + n < 48) ∨ (48 ≤ r.phase ∧ r.phase + n < 64)) :
    recoverHalf now v n (k, v, r) = (k + n, v, { r with phase := r.phase + n, since := min 81 (r.since + n) }) := by
  induction n generalizing k r with
  | zero => simp only [recoverHalf, Nat.add_zero, Nat.min_eq_right since]
  | succ n ih =>
    have place : r.place false = r.phase + 1 := by
      unfold Recovery.place
      rw [if_neg (by simp), Nat.mod_eq_of_lt (by rw [Config.bitTime]; omega)]
    have one : r.next true v (v != v) (now k) = { r with phase := r.phase + 1, since := min 81 (r.since + 1) } := by
      rw [next_of_locked locked, bne_self_eq_false, Recovery.follow, place]
      dsimp only
      rw [if_neg (by omega), if_neg (by omega), if_neg (by omega), if_neg nofun, bump_min since]
    rw [recoverHalf, one, ih (k + 1) (by exact locked) (Nat.min_le_left _ _) (by dsimp only; omega)]
    have add : k + 1 + n = k + (n + 1) := by omega
    have phase : r.phase + 1 + n = r.phase + (n + 1) := by omega
    have count : min 81 (min 81 (r.since + 1) + n) = min 81 (r.since + (n + 1)) := by omega
    rw [add, phase, count]

/-- The first half of a bit time: what is noted at its beginning, and the level at its centre. -/
theorem recoverHalf_first (now : Nat → Mark) (level v : Bool) (k : Nat) {r : Recovery} (locked : r.locked = true)
    (phase : r.phase = 63) (since : r.since ≤ 81) :
    recoverHalf now v 32 (k, level, r) = (k + 32, v, { r with
      phase := 31, since := if v ≠ level then 31 else min 81 (r.since + 32), mark := some (now k), first := some v }) := by
  have place : ∀ edge, r.place edge = 0 := fun edge => by simp [Recovery.place, phase, Config.bitTime]
  have begins : recoverHalf now v 1 (k, level, r) = (k + 1, v, { r with
      phase := 0, since := if v ≠ level then 0 else min 81 (r.since + 1), mark := some (now k), first := none }) := by
    rw [recoverHalf, next_of_locked locked, Recovery.follow, place]
    simp [recoverHalf, bump_min since]
  have bound : (if v ≠ level then 0 else min 81 (r.since + 1)) ≤ 81 := by split <;> omega
  rw [show 32 = 1 + (15 + (1 + 15)) from rfl, recoverHalf_add, begins, recoverHalf_add,
    recoverHalf_steady now v 15 (k + 1) (by exact locked) bound (by simp), recoverHalf_add]
  have samples : recoverHalf now v 1 (k + 1 + 15, v, { r with
        phase := 0 + 15, since := min 81 ((if v ≠ level then 0 else min 81 (r.since + 1)) + 15), mark := some (now k), first := none })
      = (k + 17, v, { r with
        phase := 16, since := min 81 ((if v ≠ level then 0 else min 81 (r.since + 1)) + 16), mark := some (now k)
        first := some v }) := by
    rw [recoverHalf, next_of_locked (by exact locked), Recovery.follow]
    simp [recoverHalf, Recovery.place, Config.bitTime, bump_min]
    omega
  rw [samples, recoverHalf_steady now v 15 (k + 17) (by exact locked) (Nat.min_le_left _ _) (by simp)]
  simp
  split <;> omega

/-- The second half of a bit time: with the level at its centre the bit time is whole. -/
theorem recoverHalf_second (now : Nat → Mark) (level v : Bool) (k : Nat) {r : Recovery} {m : Mark} (locked : r.locked = true)
    (phase : r.phase = 31) (since : r.since ≤ 81) (mark : r.mark = some m) (first : r.first = some level) :
    recoverHalf now v 32 (k, level, r) = (k + 32, v, { r with
      phase := 63, since := if v ≠ level then 31 else min 81 (r.since + 32), mark := none, first := none
      recent := (r.recent ++ [({ halves := (level, v), mark := m } : BitTime)]).drop (r.recent.length + 1 - 8) }) := by
  have place : ∀ edge, r.place edge = 32 := fun edge => by simp [Recovery.place, phase, Config.bitTime]
  have begins : recoverHalf now v 1 (k, level, r) = (k + 1, v, { r with
      phase := 32, since := if v ≠ level then 0 else min 81 (r.since + 1) }) := by
    rw [recoverHalf, next_of_locked locked, Recovery.follow, place]
    simp [recoverHalf, bump_min since]
  have bound : (if v ≠ level then 0 else min 81 (r.since + 1)) ≤ 81 := by split <;> omega
  rw [show 32 = 1 + (15 + (1 + 15)) from rfl, recoverHalf_add, begins, recoverHalf_add,
    recoverHalf_steady now v 15 (k + 1) (by exact locked) bound (by simp), recoverHalf_add]
  have samples : recoverHalf now v 1 (k + 1 + 15, v, { r with
        phase := 32 + 15, since := min 81 ((if v ≠ level then 0 else min 81 (r.since + 1)) + 15) })
      = (k + 17, v, { r with
        phase := 48, since := min 81 ((if v ≠ level then 0 else min 81 (r.since + 1)) + 16), mark := none, first := none
        recent := (r.recent ++ [({ halves := (level, v), mark := m } : BitTime)]).drop (r.recent.length + 1 - 8) }) := by
    rw [recoverHalf, next_of_locked (by exact locked), Recovery.follow]
    simp [recoverHalf, Recovery.place, Config.bitTime, bump_min, mark, first]
    omega
  rw [samples, recoverHalf_steady now v 15 (k + 17) (by exact locked) (Nat.min_le_left _ _) (by simp)]
  simp
  split <;> omega

/-- A bit time found, from the end of the one before it to its own. -/
theorem recoverBits_one (now : Nat → Mark) (h : Bool × Bool) (level : Bool) (k : Nat) {r : Recovery} (locked : r.locked = true)
    (phase : r.phase = 63) (since : r.since ≤ 81) :
    recoverBits now [h] (k, level, r) = (k + 64, h.2, { r with
      since := if h.1 ≠ h.2 then 31 else if h.1 ≠ level then 63 else min 81 (r.since + 64)
      mark := none, first := none
      recent := (r.recent ++ [({ halves := h, mark := now k } : BitTime)]).drop (r.recent.length + 1 - 8) }) := by
  obtain ⟨v, w⟩ := h
  have bound : (if v ≠ level then 31 else min 81 (r.since + 32)) ≤ 81 := by split <;> omega
  rw [recoverBits, recoverBits, recoverHalf_first now level v k locked phase since,
    recoverHalf_second now v w (k + 32) (by exact locked) rfl bound rfl rfl]
  have count : (if w ≠ v then 31 else min 81 ((if v ≠ level then 31 else min 81 (r.since + 32)) + 32))
      = if v ≠ w then 31 else if v ≠ level then 63 else min 81 (r.since + 64) := by
    simp only [ne_comm (a := w)]
    split
    · rfl
    · split <;> omega
  rw [count, phase]

/-- The bit times of a list, each with what is noted at its beginning, the first of them `k` periods on. -/
def bitTimesFrom (now : Nat → Mark) : Nat → List (Bool × Bool) → List BitTime
  | _, [] => []
  | k, h :: hs => { halves := h, mark := now k } :: bitTimesFrom now (k + 64) hs

/-- The latest eight bit times once those of a list have been received. -/
theorem recoverBits_recent (now : Nat → Mark) (hs : List (Bool × Bool)) (level : Bool) (k : Nat) {r : Recovery}
    (locked : r.locked = true) (phase : r.phase = 63) (since : r.since ≤ 81) (few : r.recent.length ≤ 8) :
    (recoverBits now hs (k, level, r)).2.2.recent
      = (r.recent ++ bitTimesFrom now k hs).drop (r.recent.length + hs.length - 8) := by
  induction hs generalizing level k r with
  | nil =>
    rw [List.length_nil, Nat.add_zero, Nat.sub_eq_zero_of_le few, List.drop_zero, bitTimesFrom, List.append_nil]
    rfl
  | cons h hs ih =>
    have bound : (if h.1 ≠ h.2 then 31 else if h.1 ≠ level then 63 else min 81 (r.since + 64)) ≤ 81 := by
      split
      · omega
      · split <;> omega
    change (recoverBits now hs (recoverBits now [h] (k, level, r))).2.2.recent = _
    have kept : (r.recent ++ [({ halves := h, mark := now k } : BitTime)]).length = r.recent.length + 1 := by simp
    rw [recoverBits_one now h level k locked phase since,
      ih h.2 (k + 64) (by exact locked) (by exact phase) bound (by simp only [List.length_drop, kept]; omega)]
    dsimp only
    rw [← List.drop_append_of_le_length (by omega), List.drop_drop, List.length_drop, kept, List.append_assoc, List.length_cons]
    exact congrArg (List.drop · _) (by omega)

/-- With the bit times not found and the level steady, the periods since the last transition are counted. -/
theorem recoverHalf_seeking (now : Nat → Mark) (v : Bool) (n k since : Nat) (bound : since ≤ 81) :
    recoverHalf now v n (k, v, { since := since }) = (k + n, v, { since := min 81 (since + n) }) := by
  induction n generalizing k since with
  | zero => simp only [recoverHalf, Nat.add_zero, Nat.min_eq_right bound]
  | succ n ih =>
    have one : Recovery.next { since := since } true v (v != v) (now k) = { since := min 81 (since + 1) } := by
      simp [Recovery.next, Recovery.seek, bump_min bound]
    rw [recoverHalf, one, ih (k + 1) _ (Nat.min_le_left _ _)]
    have add : k + 1 + n = k + (n + 1) := by omega
    have count : min 81 (min 81 (since + 1) + n) = min 81 (since + (n + 1)) := by omega
    rw [add, count]

/-- A transition further than a quarter of a bit time from one bit time behind the last one shows nothing. -/
theorem recoverHalf_turns (now : Nat → Mark) (v level : Bool) (k since : Nat) (edge : v ≠ level)
    (far : since < 47 ∨ 79 < since) :
    recoverHalf now v 32 (k, level, { since := since }) = (k + 32, v, { since := 31 }) := by
  have begins : recoverHalf now v 1 (k, level, { since := since }) = (k + 1, v, { since := 0 }) := by
    simp [recoverHalf, Recovery.next, Recovery.seek, edge]
    omega
  rw [show 32 = 1 + 31 from rfl, recoverHalf_add, begins, recoverHalf_seeking now v 31 _ _ (by omega)]
  rfl

/-- A transition one bit time behind the last one shows the middle of a bit time. -/
theorem recoverHalf_finds (now : Nat → Mark) (v level : Bool) (k : Nat) (edge : v ≠ level) :
    recoverHalf now v 32 (k, level, { since := 63 }) = (k + 32, v, { locked := true, phase := 63, since := 31 }) := by
  have begins : recoverHalf now v 1 (k, level, { since := 63 }) = (k + 1, v, { locked := true, phase := 32, since := 0 }) := by
    simp [recoverHalf, Recovery.next, Recovery.seek, edge]
  have samples : recoverHalf now v 1 (k + 1 + 15, v, { locked := true, phase := 47, since := 15 })
      = (k + 17, v, { locked := true, phase := 48, since := 16 }) := by
    simp [recoverHalf, Recovery.next, Recovery.follow, Recovery.place, Config.bitTime, bump]
  rw [show 32 = 1 + (15 + (1 + 15)) from rfl, recoverHalf_add, begins, recoverHalf_add,
    recoverHalf_steady now v 15 (k + 1) rfl (by simp) (by simp)]
  change recoverHalf now v (1 + 15) (k + 1 + 15, v, { locked := true, phase := 47, since := 15 }) = _
  rw [recoverHalf_add, samples,
    recoverHalf_steady now v 15 (k + 17) rfl (by simp) (by simp)]
  simp

/-- Two bit times of the preamble behind an idle carrier show where the middle transitions are. -/
theorem recoverBits_found (now : Nat → Mark) (k : Nat) (level : Bool) :
    recoverBits now [(true, false), (false, true)] (k, level, { since := 81 })
      = (k + 128, true, { locked := true, phase := 63, since := 31 }) := by
  have begins : ∃ since, (since = 31 ∨ since = 81)
      ∧ recoverHalf now true 32 (k, level, { since := 81 }) = (k + 32, true, { since := since }) := by
    cases level with
    | true => exact ⟨81, .inr rfl, recoverHalf_seeking now true 32 k 81 (by omega)⟩
    | false => exact ⟨31, .inl rfl, recoverHalf_turns now true false k 81 nofun (by omega)⟩
  obtain ⟨since, two, begins⟩ := begins
  simp only [recoverBits]
  rw [begins, recoverHalf_turns now false true (k + 32) since nofun (by omega),
    recoverHalf_seeking now false 32 _ 31 (by omega)]
  exact recoverHalf_finds now true false (k + 96) nofun

/-! ### The receive path in the clockwork -/

/-- The bit times behind a start delimiter are not none. -/
theorem ne_nil_of_delimiterIn {inverted : Bool} {x : List (Bool × Bool)} {d : Delimiter} (h : delimiterIn inverted x = some d) :
    x ≠ [] := by
  rintro rfl
  cases inverted <;> cases d <;> exact absurd h (by decide)

/-- What a bit time received brings about (R101, R104, R105). -/
theorem mem_bitTimeCommand {b : Bus} {c : Instr} :
    c ∈ (bitTimeCommand b).toList ↔
      (b.frame.isSome = true ∧ ∃ x, b.recovery.recent.getLast? = some x ∧ c = .frameEnd [x.halves])
      ∨ (b.frame = none ∧ b.ignoring = false
        ∧ ((c = .startDelimiter ∧ b.delimiter = some .normal) ∨ (c = .invertedDelimiter ∧ b.delimiter = some .inverted))) := by
  rw [Option.mem_toList]
  unfold bitTimeCommand
  split
  · next none =>
    have empty : b.recovery.recent = [] := List.getLast?_eq_none_iff.mp none
    have noDelimiter : ∀ d, b.delimiter ≠ some d := fun d h => ne_nil_of_delimiterIn h (by rw [empty]; rfl)
    simp [none, noDelimiter]
  · next x last =>
    split
    · next receives =>
      have some : b.frame ≠ Option.none := Option.isSome_iff_ne_none.mp receives
      simp [receives, some, last]
      exact eq_comm
    · next waits =>
      have frame : b.frame = Option.none := by simpa using waits
      split
      · next ignores => simp [frame, ignores]
      · next listens =>
        rw [Bool.not_eq_true] at listens
        split <;> next found => simp [frame, listens, found, eq_comm]

/-- Settles O45: reception by `receive_bodySamples`, recovery by `recoverBits_one` and `recoverBits_recent`, the clockwork by the
receive path of the idle step. -/
theorem wireRoundTrip : Obligations.WireRoundTrip := by
  intro octets f now level s
  refine ⟨fun short none whole clean => ?received, fun r k h locked phase since => recoverBits_one now h level k locked phase since,
    fun r k e => ?delimiter, fun bits => ?patterns, fun idling => ?clockwork⟩
  case received =>
    have room : f.octets.length + (withCheck octets).length ≤ 64 := by
      rw [none, withCheck_length, List.length_nil]
      omega
    have two : 2 ≤ f.octets.length + (withCheck octets).length := by
      rw [withCheck_length]
      omega
    have ends : ∀ inverted, receive inverted f ((bodySamples (withCheck octets)).map (readHalves inverted))
        = .ended { f with octets := withCheck octets, violation := true } true false := fun inverted => by
      rw [receive_bodySamples clean whole _ room two, none, List.nil_append]
    refine ⟨?_, ?_, checkGood_withCheck octets⟩
    · simpa only [readHalves_false, List.map_id] using ends false
    · simpa only [readHalves_true] using ends true
  case delimiter =>
    have whole : recoverBits now (preamble ++ startMark) (k, level, { since := 81 })
        = recoverBits now (preamble.drop 2 ++ startMark)
          (recoverBits now [(true, false), (false, true)] (k, level, { since := 81 })) := rfl
    rw [e, whole, recoverBits_found, recoverBits_recent now _ true (k + 128) rfl rfl (by simp) (Nat.zero_le _)]
    rfl
  case patterns =>
    simp only [delimiterIn_normal, delimiterIn_inverted]
    exact ⟨Iff.rfl, Iff.rfl, Iff.rfl, Iff.rfl⟩
  case clockwork =>
    obtain ⟨t, e, bus, floor, due⟩ := idling.step_spec
    have keeps : t.bus.recovery = s.inputsTaken.nextRecovery ∧ t.bus.lastLevel = s.pins.busLevel ∧ t.bus.frame = s.bus.frame
        ∧ t.bus.flight.map Flight.phase = s.bus.flight.map Flight.phase := by
      have sent : s.inputsTaken.flown.map Flight.phase = s.bus.flight.map Flight.phase := by
        unfold State.flown
        rw [State.inputsTaken_bus, Option.map_map]
        refine Option.map_congr fun f _ => ?_
        dsimp only [Function.comp_apply]
        split <;> rfl
      rw [bus]
      split
      · refine ⟨rfl, congrArg Pins.busLevel s.inputsTaken_pins, (congrArg Bus.frame s.inputsTaken_bus :), Eq.trans ?_ sent⟩
        refine (Option.map_map ..).trans (Option.map_congr fun f _ => ?_)
        dsimp only [Function.comp_apply, Flight.backedOff]
        split <;> rfl
      · exact ⟨rfl, congrArg Pins.busLevel s.inputsTaken_pins, (congrArg Bus.frame s.inputsTaken_bus :), sent⟩
    obtain ⟨recovery, lastLevel, frame, phase⟩ := keeps
    have noted : s.inputsTaken.markNow = t.markNow := by
      simp only [State.markNow, floor, Bus.sending_eq, phase, State.inputsTaken_bus]
    have next : t.bus.recovery
        = s.bus.recovery.next s.bus.busy s.pins.busLevel (s.pins.busLevel != s.bus.lastLevel) t.markNow := by
      rw [recovery, State.nextRecovery, noted, pairEdge, State.inputsTaken_bus, State.inputsTaken_pins]
    have taken : ∀ c, (∃ xs, c = .frameEnd xs) ∨ c = .startDelimiter ∨ c = .invertedDelimiter →
        (c ∈ t.due ↔ (s.bus.recovery.mark.isSome && t.bus.recovery.mark.isNone && t.bus.recovery.phase == 48) = true
          ∧ c ∈ (bitTimeCommand { s.bus with recovery := t.bus.recovery }).toList) := by
      intro c received
      have ofBus : OfBus c := by
        rcases received with ⟨xs, rfl⟩ | rfl | rfl <;> exact ⟨rfl, nofun, nofun⟩
      have notSent : c ∉ s.inputsTaken.sendingEvents := fun m => by
        rcases received with ⟨xs, rfl⟩ | rfl | rfl <;> rcases mem_sendingEvents m with h | h <;> cases h
      have notEnded : c ∉ s.inputsTaken.carrierCounted.bitTimeEvents s.pins.driveSense := fun m => by
        rcases received with ⟨xs, rfl⟩ | rfl | rfl <;> rcases bitTimeEvents_only m with h | h | h | h <;> cases h
      rw [due c ofBus, recovery]
      simp only [notSent, notEnded, and_false, or_false]
      unfold State.received Recovery.ends
      rw [State.inputsTaken_bus]
      split
      · next ends => exact (and_iff_right ends).symm
      · next goes => exact iff_of_false nofun fun h => goes h.1
    refine ⟨t, e, next, lastLevel, frame, ?_⟩
    rintro ended rfl
    refine ⟨(taken _ (.inr (.inl rfl))).trans (and_congr_right fun _ => ?_),
      (taken _ (.inr (.inr rfl))).trans (and_congr_right fun _ => ?_),
      fun xs => (taken _ (.inl ⟨xs, rfl⟩)).trans (and_congr_right fun _ => ?_)⟩ <;> rw [mem_bitTimeCommand] <;> simp [Bus.delimiter]

end Sys2Proof.Machine
end

section
/-! FRAME_END: the sorting of the frame that ends (06, section 6.4; 07, section 7.2). -/

namespace Sys2Proof.Machine

/-! ### Reception bit by bit -/

/-- A bit time that does not end the frame. -/
theorem receiveSample_of_clean {f : RxFrame} (inverted : Bool) (h : Bool × Bool) (clean : f.violation = false)
    (room : h.1 = h.2 ∨ f.octets.length < 64) :
    receiveSample inverted f h = .going (if h.1 = h.2 then { f with violation := true }
      else if f.bits.length = 7 then { f with octets := f.octets ++ [bitsOctet (f.bits ++ [h.1 != inverted])], bits := [] }
      else { f with bits := f.bits ++ [h.1 != inverted] }) := by
  unfold receiveSample
  rw [if_neg (by simp [clean])]
  by_cases same : h.1 = h.2
  · rw [if_pos same, if_pos same]
  · rw [if_neg same, if_neg same, if_neg (by have := room.resolve_left same; omega)]
    simp only [List.length_append, List.length_singleton, Nat.reduceEqDiff]
    split <;> rfl

/-- So many bits of a frame in reception, no violation among them. -/
def RxFrame.Holds (f : RxFrame) (own : Bool) (n : Nat) : Prop :=
  f.violation = false ∧ f.bits.length < 8 ∧ 8 * f.octets.length + f.bits.length = n ∧ f.ownEcho = own

theorem receiveSample_holds {f : RxFrame} {own : Bool} {n : Nat} (inverted b : Bool) (h : f.Holds own n) (room : n < 512) :
    ∃ g, receiveSample inverted f (readHalves inverted (bitHalves b)) = .going g ∧ g.Holds own (n + 1) := by
  obtain ⟨clean, few, count, echo⟩ := h
  refine ⟨_, receiveSample_bit inverted b clean (by omega), ?_⟩
  split
  · exact ⟨clean, by simp, by simp only [List.length_append, List.length_singleton, List.length_nil]; omega, echo⟩
  · exact ⟨clean, by simp only [List.length_append, List.length_singleton]; omega,
      by simp only [List.length_append, List.length_singleton]; omega, echo⟩

/-- The bits of 64 octets at most are all taken. -/
theorem receive_holds {inverted own : Bool} (bits : List Bool) {f : RxFrame} {n : Nat} (h : f.Holds own n)
    (room : n + bits.length ≤ 512) :
    ∃ g, receive inverted f ((bits.map bitHalves).map (readHalves inverted)) = .going g ∧ g.Holds own (n + bits.length) := by
  induction bits generalizing f n with
  | nil => exact ⟨f, rfl, h⟩
  | cons b bits ih =>
    rw [List.length_cons] at room ⊢
    obtain ⟨g, taken, holds⟩ := receiveSample_holds inverted b h (by omega)
    obtain ⟨k, rest, all⟩ := ih holds (by omega)
    refine ⟨k, ?_, by rwa [Nat.add_right_comm] at all⟩
    rw [List.map_cons, List.map_cons, receive_cons, taken]
    exact rest

/-- A 65th octet ends the frame (R104). -/
theorem receive_tooLong {inverted own : Bool} (bits : List Bool) {f : RxFrame} (h : f.Holds own 0) (long : 512 < bits.length) :
    ∃ g, receive inverted f ((bits.map bitHalves).map (readHalves inverted)) = .ended g false true ∧ g.ownEcho = own := by
  obtain ⟨g, taken, clean, few, count, echo⟩ := receive_holds (inverted := inverted) (bits.take 512) h
    (by rw [List.length_take]; omega)
  have held : (bits.take 512).length = 512 := by rw [List.length_take]; omega
  refine ⟨g, ?_, echo⟩
  rw [← List.take_append_drop 512 bits, List.map_append, List.map_append, receive_append taken]
  cases rest : bits.drop 512 with
  | nil =>
    have : bits.length - 512 = 0 := by rw [← List.length_drop, rest]; rfl
    omega
  | cons b bs =>
    rw [List.map_cons, List.map_cons, receive_cons, readHalves_bitHalves, receiveSample, if_neg (by simp [clean]),
      if_neg (by cases b != inverted <;> nofun), if_pos (by omega)]

/-- A frame that the end delimiter does not end good-framed. -/
theorem receive_badlyFramed {inverted own : Bool} (bits : List Bool) (v : Bool) (h : Bool × Bool) {f : RxFrame}
    (start : f.Holds own 0) (short : bits.length ≤ 512) (bad : h.1 ≠ h.2 ∨ bits.length % 8 ≠ 0 ∨ bits.length < 16) :
    ∃ g, receive inverted f ((bits.map bitHalves ++ [(v, v), h]).map (readHalves inverted)) = .ended g false false
      ∧ g.ownEcho = own := by
  obtain ⟨g, taken, clean, few, count, echo⟩ := receive_holds (inverted := inverted) bits start (by omega)
  refine ⟨{ g with violation := true }, ?_, echo⟩
  rw [List.map_append, receive_append taken]
  simp only [List.map_cons, List.map_nil, receive_cons, receiveSample_violation inverted v clean]
  rw [receiveSample, if_pos rfl]
  have same : (readHalves inverted h).1 = (readHalves inverted h).2 ↔ h.1 = h.2 := by simp [readHalves]
  by_cases equal : h.1 = h.2
  · have fails : (g.bits.isEmpty && decide (2 ≤ g.octets.length)) = false := by
      simp only [Bool.and_eq_false_iff, decide_eq_false_iff_not, List.isEmpty_eq_false_iff]
      by_contra both
      obtain ⟨whole, two⟩ := not_or.mp both
      have := congrArg List.length (not_not.mp whole)
      rw [List.length_nil] at this
      have := bad.resolve_left (not_not.mpr equal)
      omega
    rw [if_pos (same.mpr equal), fails]
  · rw [if_neg (fun e => equal (same.mp e))]

/-! ### What is made of a frame's end -/

theorem judgeEcho_frame (good : Bool) (s : State) : (judgeEcho good s).bus.frame = s.bus.frame := by rw [judgeEcho_eq]; rfl

theorem pick_rxFrame (s : State) : (pick s).bus.frame = s.bus.frame := by rw [pick_spec]

theorem assertDuplicate_frame (s : State) : (assertDuplicate s).bus.frame = s.bus.frame := by
  unfold assertDuplicate
  split
  · rfl
  · rw [pick_rxFrame]; rfl

theorem takeFrame_frame (good : Bool) (f : RxFrame) (s : State) : (takeFrame good f s).bus.frame = s.bus.frame := by
  unfold takeFrame
  split
  · rfl
  · rfl
  · rfl
  · split
    · unfold enqueue
      split <;> rfl
    · exact assertDuplicate_frame s
    · rfl
    · rfl

/-- A frame that has ended is not in reception. -/
theorem frameEnded_frame (f : RxFrame) (good : Bool) (s : State) : (frameEnded f good s).bus.frame = none := by
  unfold frameEnded
  dsimp only
  split
  · unfold takeEcho
    split
    · rw [judgeEcho_frame]; rfl
    · rfl
  · rw [takeFrame_frame]; rfl

theorem exec_frameEnd {s : State} {f : RxFrame} (receives : s.bus.frame = some f) (xs : List (Bool × Bool)) :
    exec (.frameEnd xs) s = .next (match receive s.bus.inverted f xs with
      | .going g => { s with bus := { s.bus with frame := some g } }
      | .ended g good long => frameEnded g good { s with bus := { s.bus with ignoring := s.bus.ignoring || long } }) := by
  change execFrameEnd xs s = _
  unfold execFrameEnd
  rw [receives]
  rfl

/-- The part with the frame in reception gone. -/
def State.frameGone (s : State) : State := { s with bus := { s.bus with frame := none } }

/-- A frame without a framing fault whose check does not hold fails like one with it (R113, R121). -/
theorem frameEnded_badCheck {f : RxFrame} (bad : checkGood f.octets = false) (good : Bool) (s : State) :
    frameEnded f good s = s.frameGone.frameFails f.ownEcho := by
  rw [show s.frameGone.frameFails f.ownEcho = frameEnded f false s from (frameFails_eq f s).symm]
  unfold frameEnded
  simp only [bad, Bool.and_false, takeFrame, accept, Bool.not_false, Bool.or_true]

/-- What an own echo with a good check leaves. -/
theorem frameEnded_ownEcho {f : RxFrame} (own : f.ownEcho = true) (check : checkGood f.octets = true) (s : State) :
    frameEnded f true s = takeEcho true s.frameGone := by
  unfold frameEnded
  rw [if_pos own, check]
  rfl

theorem frameEnded_takeFrame {f : RxFrame} (own : f.ownEcho = false) (s : State) :
    frameEnded f true s = takeFrame true f s.frameGone := by
  unfold frameEnded
  rw [if_neg (by simp [own])]
  rfl

/-! ### A bulletin and its check -/

theorem octetAt_withCheck {x : List Octet} {k : Nat} (h : k < x.length) : octetAt (withCheck x) k = octetAt x k := by
  unfold octetAt withCheck
  rw [List.getD_append _ _ _ _ h]

theorem length_pos_of_kindOf {x : List Octet} (h : 1 ≤ kindOf x) : 0 < x.length := by
  rcases x with _ | ⟨o, x⟩
  · exact absurd h (by decide)
  · simp

theorem Sized.kind {x : List Octet} (h : Sized x) : 1 ≤ kindOf x ∧ kindOf x ≤ 7 := by
  unfold Sized at h
  omega

theorem kindOf_withCheck {x : List Octet} (h : 0 < x.length) : kindOf (withCheck x) = kindOf x := by
  rw [kindOf, octetAt_withCheck h, kindOf]

theorem sourceOf_withCheck {x : List Octet} (h : 0 < x.length) : sourceOf (withCheck x) = sourceOf x := by
  rw [sourceOf, octetAt_withCheck h, sourceOf]

theorem kindKnown_withCheck (x : List Octet) : kindKnown (withCheck x) = (decide (1 ≤ kindOf x) && decide (kindOf x ≤ 7)) := by
  rcases x with _ | ⟨o, x⟩
  · decide
  · unfold kindKnown
    rw [kindOf_withCheck (by simp)]

theorem lengthMatches_withCheck {x : List Octet} (known : 1 ≤ kindOf x) (seven : kindOf x ≤ 7) :
    lengthMatches (withCheck x) = true ↔ Sized x := by
  have pos := length_pos_of_kindOf known
  unfold lengthMatches Sized
  dsimp only
  rw [kindOf_withCheck pos, withCheck_length]
  have cases' : kindOf x = 1 ∨ kindOf x = 2 ∨ kindOf x = 3 ∨ kindOf x = 4 ∨ kindOf x = 5 ∨ kindOf x = 6 ∨ kindOf x = 7 := by omega
  rcases cases' with k | k | k | k | k | k | k
  · by_cases long : 9 ≤ x.length
    · rw [octetAt_withCheck (by omega)]
      simp [k]
      omega
    · simp [k]
      omega
  all_goals simp [k]

/-- What acceptance makes of a bulletin received whole (R121). -/
theorem accept_withCheck (x : List Octet) : accept true (withCheck x)
    = if ¬ (1 ≤ kindOf x ∧ kindOf x ≤ 7) then .kindError else if lengthMatches (withCheck x) then .accepted else .lengthError := by
  unfold accept
  rw [checkGood_withCheck, kindKnown_withCheck]
  by_cases known : 1 ≤ kindOf x ∧ kindOf x ≤ 7
  · cases long : lengthMatches (withCheck x) <;> simp [known.1, known.2]
  · rw [if_pos known, if_neg (by simp), if_pos (by simp; omega)]

/-- What sorting makes of a bulletin received whole (R122). -/
theorem sortBulletin_withCheck {x : List Octet} (sized : Sized x) (number : Nat) : sortBulletin number (withCheck x)
    = if kindOf x ≤ 3 then if sourceOf x = number then .duplicate else if 12 ≤ sourceOf x then .ignored else .queued
      else if kindOf x = 5 then if sourceOf x = number then .duplicate else .ignored
      else if sourceOf x < 12 then .misdirected
      else if octetAt x 1 = number ∨ octetAt x 1 = 255 then .queued else .ignored := by
  have pos := length_pos_of_kindOf sized.kind.1
  have two : 1 < x.length := by
    unfold Sized at sized
    omega
  unfold sortBulletin destinationOf
  dsimp only
  rw [kindOf_withCheck pos, sourceOf_withCheck pos, octetAt_withCheck two]

theorem sortBulletin_toQueue {x : List Octet} {number : Nat} (sized : Sized x)
    (h : (kindOf x ≤ 3 ∧ sourceOf x ≠ number ∧ sourceOf x < 12)
      ∨ ((kindOf x = 4 ∨ 6 ≤ kindOf x) ∧ 12 ≤ sourceOf x ∧ (octetAt x 1 = number ∨ octetAt x 1 = 255))) :
    sortBulletin number (withCheck x) = .queued := by
  rw [sortBulletin_withCheck sized]
  rcases h with ⟨low, other, source⟩ | ⟨kind, source, own⟩
  · rw [if_pos low, if_neg other, if_neg (by omega)]
  · rw [if_neg (by omega), if_neg (by omega), if_neg (by omega), if_pos own]

theorem sortBulletin_misdirected {x : List Octet} (sized : Sized x) (number : Nat) (kind : kindOf x = 4 ∨ 6 ≤ kindOf x)
    (source : sourceOf x < 12) : sortBulletin number (withCheck x) = .misdirected := by
  rw [sortBulletin_withCheck sized, if_neg (by omega), if_neg (by omega), if_pos source]

theorem sortBulletin_duplicate {x : List Octet} {number : Nat} (sized : Sized x) (kind : kindOf x ≤ 3 ∨ kindOf x = 5)
    (own : sourceOf x = number) : sortBulletin number (withCheck x) = .duplicate := by
  rw [sortBulletin_withCheck sized]
  rcases kind with low | five
  · rw [if_pos low, if_pos own]
  · rw [if_neg (by omega), if_pos five, if_pos own]

theorem sortBulletin_ignored {x : List Octet} {number : Nat} (sized : Sized x)
    (h : (kindOf x ≤ 3 ∧ sourceOf x ≠ number ∧ 12 ≤ sourceOf x) ∨ (kindOf x = 5 ∧ sourceOf x ≠ number)
      ∨ ((kindOf x = 4 ∨ 6 ≤ kindOf x) ∧ 12 ≤ sourceOf x ∧ octetAt x 1 ≠ number ∧ octetAt x 1 ≠ 255)) :
    sortBulletin number (withCheck x) = .ignored := by
  rw [sortBulletin_withCheck sized]
  rcases h with ⟨low, other, source⟩ | ⟨five, other⟩ | ⟨kind, source, notOwn, notAll⟩
  · rw [if_pos low, if_neg other, if_pos source]
  · rw [if_neg (by omega), if_pos five, if_neg other]
  · rw [if_neg (by omega), if_neg (by omega), if_neg (by omega), if_neg (not_or.mpr ⟨notOwn, notAll⟩)]

/-- A bulletin received whole at the bulletin unit (R121, R122). -/
theorem takeFrame_sized {x : List Octet} {f : RxFrame} (sized : Sized x) (octets : f.octets = withCheck x) (s : State) :
    takeFrame true f s = match sortBulletin s.number (withCheck x) with
      | .queued => enqueue ⟨f.octets, f.stamp, f.generation⟩ s
      | .duplicate => assertDuplicate s
      | .misdirected => s.onCounters fun c => { c with misdirect := bump 65535 c.misdirect }
      | .ignored => s := by
  unfold takeFrame
  rw [octets, accept_withCheck, if_neg (not_not.mpr sized.kind), if_pos ((lengthMatches_withCheck sized.kind.1 sized.kind.2).mpr sized)] <;> rfl

/-! ### DUPLICATE -/

theorem keepSending_eq (b : Bus) (k : Slot) (x : Option Bulletin) :
    keepSending b k x = if b.flying k = true ∧ b.sending = true then x else none := by
  unfold keepSending
  simp only [Bool.and_eq_true, and_comm]

theorem flightSending_of_sending {b : Bus} (h : b.sending = true) : b.flightSending = b.flight := by
  unfold Bus.flightSending Bus.sending at *
  cases flight : b.flight with
  | none => rfl
  | some f =>
    rw [flight] at h
    exact Option.filter_some_pos (by simpa using h)

theorem flightSending_of_not_sending {b : Bus} (h : b.sending = false) : b.flightSending = none := by
  unfold Bus.flightSending Bus.sending at *
  cases flight : b.flight with
  | none => rfl
  | some f =>
    rw [flight] at h
    exact Option.filter_some_neg (by simpa using h)

/-- The assertion of DUPLICATE at the slots and at the bulletin in flight (R116, R152). -/
theorem assertDuplicate_silenced {s : State} (clear : s.duplicate = false) :
    Silenced s (assertDuplicate s) ∧ SlotsOnly s.bus (assertDuplicate s)
      ∧ { assertDuplicate s with
          bus := s.bus, duplicate := s.duplicate, flags := { (assertDuplicate s).flags with duplicate := s.flags.duplicate }
          steer := { (assertDuplicate s).steer with deferredHold := s.steer.deferredHold } } = s := by
  unfold assertDuplicate
  rw [if_neg (by simp [clear]), pick_spec]
  refine ⟨⟨rfl, rfl, rfl, rfl, keepSending_eq .., keepSending_eq .., keepSending_eq .., fun stays => ?_, fun report idle => ?_⟩,
    rfl, rfl⟩
  · have flies : s.bus.flight ≠ none := by
      rintro none
      rcases stays with h | h <;> simp [Bus.flying, Bus.sending, none] at h
    have kept : s.bus.silenced.flight = s.bus.flight := by
      unfold Bus.silenced
      dsimp only
      split
      · rfl
      · next other => exact flightSending_of_sending (stays.resolve_left other)
    dsimp only
    rw [kept, if_neg (fun h => flies h.1)]
  · have gone : s.bus.silenced.flight = none := by
      unfold Bus.silenced
      dsimp only
      rw [if_neg (by simp [report]), flightSending_of_not_sending idle]
    have next : nextSlot true s.bus.silenced = if s.bus.reports ≠ [] then some .report else none := by
      have same : s.bus.silenced.reports = s.bus.reports := rfl
      cases reports : s.bus.reports <;> simp [nextSlot, same, reports]
    have enabled : s.bus.silenced.enabled = s.bus.enabled := rfl
    dsimp only
    rw [gone, next, enabled]
    by_cases on : s.bus.enabled = true <;> by_cases some : s.bus.reports = [] <;> simp [on, some]

/-- Settles O46: reception in parts by `receive_append`, the faults by `receive_badlyFramed`, `receive_tooLong` and
`frameEnded_badCheck`, a whole bulletin by `receive_bodySamples` and the sorting of what it holds. -/
theorem frameEndSortsBulletin : Obligations.FrameEndSortsBulletin := by
  intro x f s receives
  refine ⟨fun xs ys g part => ?parts, fun h clean room => ?one, fun none whole clean => ⟨fun bits v h => ?faults, ?check, ?bulletin⟩⟩
  case parts =>
    rw [exec_frameEnd receives] at part
    rw [exec_frameEnd (f := g) rfl, exec_frameEnd receives]
    split at part
    · next g' going =>
      obtain rfl : g' = g := Option.some.inj (congrArg (fun t : State => t.bus.frame) (Host.Outcome.next.inj part))
      rw [receive_append going]
      rfl
    · next g' good long ended =>
      have left := congrArg (fun t : State => t.bus.frame) (Host.Outcome.next.inj part)
      dsimp only at left
      rw [frameEnded_frame] at left
      exact absurd left nofun
  case one =>
    rw [exec_frameEnd receives, receive_cons, receiveSample_of_clean _ h clean room]
    rfl
  case faults =>
    have start : f.Holds f.ownEcho 0 := ⟨clean, by simp [whole], by simp [none, whole], rfl⟩
    refine ⟨fun short bad => ?_, fun long => ?_⟩
    · obtain ⟨g, ended, echo⟩ := receive_badlyFramed (inverted := s.bus.inverted) bits v h start short bad
      rw [exec_frameEnd receives, ended]
      dsimp only
      rw [frameFails_eq, echo, Bool.or_false]
    · obtain ⟨g, ended, echo⟩ := receive_tooLong (inverted := s.bus.inverted) bits start long
      rw [exec_frameEnd receives, ended]
      dsimp only
      rw [frameFails_eq, echo, Bool.or_true]
  case check =>
    intro two short bad
    rw [exec_frameEnd receives, receive_bodySamples clean whole x (by rw [none, List.length_nil]; omega)
      (by rw [none, List.length_nil]; omega), none, List.nil_append]
    dsimp only
    rw [frameEnded_badCheck bad, Bool.or_false]
    rfl
  case bulletin =>
    intro short
    have room : f.octets.length + (withCheck x).length ≤ 64 := by
      rw [none, withCheck_length, List.length_nil]
      omega
    have two : 2 ≤ f.octets.length + (withCheck x).length := by
      rw [withCheck_length]
      omega
    obtain ⟨g, taken, octets, echo, stamp, generation⟩ :
        ∃ g, exec (.frameEnd ((bodySamples (withCheck x)).map (readHalves s.bus.inverted))) s = .next (frameEnded g true s)
          ∧ g.octets = withCheck x ∧ g.ownEcho = f.ownEcho ∧ g.stamp = f.stamp ∧ g.generation = f.generation := by
      refine ⟨{ f with octets := withCheck x, violation := true }, ?_, rfl, rfl, rfl, rfl⟩
      rw [exec_frameEnd receives, receive_bodySamples clean whole _ room two, none, List.nil_append]
      dsimp only
      rw [Bool.or_false]
    have check : checkGood g.octets = true := octets ▸ checkGood_withCheck x
    rw [← echo, ← stamp, ← generation]
    refine ⟨_, taken, fun own waits => ?_, fun own waits => ?_, fun other unknown => ?_, fun other one seven wrong => ?_,
      fun other sized queued => ?_, fun other sized mine source => ?_, fun other sized mine source clear => ?_,
      fun other sized ignored => ?_⟩
    · rw [frameEnded_ownEcho own check, takeEcho, if_neg (by simp [State.frameGone, waits])]
      rfl
    · rw [frameEnded_ownEcho own check, takeEcho, if_pos (by simp [State.frameGone, waits]), judgeEcho_eq]
      simp [State.echoJudged, State.onBus, State.frameGone]
    · rw [frameEnded_takeFrame other, takeFrame, octets, accept_withCheck, if_pos (by omega)]
      rfl
    · rw [frameEnded_takeFrame other, takeFrame, octets, accept_withCheck, if_neg (not_not.mpr ⟨one, seven⟩),
        if_neg (fun h => wrong ((lengthMatches_withCheck one seven).mp h))]
      rfl
    all_goals rw [frameEnded_takeFrame other, takeFrame_sized sized octets]
    · rw [sortBulletin_toQueue (number := s.frameGone.number) sized queued, octets]
      rfl
    · rw [sortBulletin_misdirected sized _ mine source]
      rfl
    · rw [sortBulletin_duplicate (number := s.frameGone.number) sized mine source]
      obtain ⟨silenced, slots, frame⟩ := assertDuplicate_silenced (s := s.frameGone) clear
      exact ⟨silenced, slots, congrArg (fun t : State => { t with bus := s.bus }) frame⟩
    · rcases ignored with ⟨mine, source, live⟩ | ignored
      · rw [sortBulletin_duplicate (number := s.frameGone.number) sized mine source]
        exact if_pos live
      · rw [sortBulletin_ignored (number := s.frameGone.number) sized ignored]
        rfl

end Sys2Proof.Machine
end

section
/-! BULLETIN_MARK: what a TIMING and an INTRO hold, and the pins they announce (07, sections 7.1 and 7.4; 09, section 9.4). -/

namespace Sys2Proof.Machine

/-! ### The pins URGENT and NONURGENT (R167, R168) -/

theorem LineFlags.any_iff (f : LineFlags) : f.any = true ↔ ∃ c, f.get c = true := by
  simp only [LineFlags.any, Bool.or_eq_true]
  constructor
  · rintro (((((h | h) | h) | h) | h) | h)
    · exact ⟨.lof, h⟩
    · exact ⟨.wander, h⟩
    · exact ⟨.diverge, h⟩
    · exact ⟨.degraded, h⟩
    · exact ⟨.excess, h⟩
    · exact ⟨.crosscheck, h⟩
  · rintro ⟨c, h⟩
    cases c <;> (simp only [LineFlags.get] at h; simp [h])

theorem State.steered_iff (s : State) : s.steered = true ↔ s.floor.state = .acquire ∨ s.floor.state = .track := by
  simp [State.steered]

theorem State.urgent_iff (s : State) : s.urgent = true ↔
    (s.steer.role = some .free ∧ (s.floor.state = .acquire ∨ s.floor.state = .track)) ∨ s.duplicate = true
      ∨ s.bus.echo = true ∨ s.bus.jabber = true := by
  simp only [State.urgent, Bool.or_eq_true, Bool.and_eq_true, s.steered_iff, beq_iff_eq, or_assoc]

theorem State.nonurgent_iff (s : State) : s.nonurgent = true ↔
    (∃ l, s.enabled l = true ∧ ∃ c, (s.line l).mon.latched.get c = true) ∨ s.flags.duplicate = true
      ∨ s.flags.echo = true ∨ s.flags.jabber = true ∨ s.flags.contend = true ∨ s.flags.profile = true ∨ s.flags.config = true := by
  simp only [State.nonurgent, StationFlags.any, Bool.or_eq_true, List.any_eq_true, mem_enabledLines, LineFlags.any_iff]
  rw [or_comm]
  simp only [or_assoc]

/-! ### The octets of a TIMING (R129 to R131) -/

/-- Five flags in an octet's low bits. -/
theorem flagOctet_bits : ∀ a b c d e : Bool,
    (BitVec.ofNat 8 (flagValue a + 2 * flagValue b + 4 * flagValue c + 8 * flagValue d + 16 * flagValue e)).getLsbD 0 = a
    ∧ (BitVec.ofNat 8 (flagValue a + 2 * flagValue b + 4 * flagValue c + 8 * flagValue d + 16 * flagValue e)).getLsbD 1 = b
    ∧ (BitVec.ofNat 8 (flagValue a + 2 * flagValue b + 4 * flagValue c + 8 * flagValue d + 16 * flagValue e)).getLsbD 2 = c
    ∧ (BitVec.ofNat 8 (flagValue a + 2 * flagValue b + 4 * flagValue c + 8 * flagValue d + 16 * flagValue e)).getLsbD 3 = d
    ∧ (BitVec.ofNat 8 (flagValue a + 2 * flagValue b + 4 * flagValue c + 8 * flagValue d + 16 * flagValue e)).getLsbD 4 = e := by
  decide

theorem roleOfCode_code (r : Role) : roleOfCode r.code = r := by cases r <;> rfl

theorem floorStateOfCode_code (f : FloorState) : floorStateOfCode f.code = f := by cases f <;> rfl

theorem Role.code_lt (r : Role) : r.code < 4 := by cases r <;> decide

theorem FloorState.code_lt (f : FloorState) : f.code < 4 := by cases f <;> decide

theorem floorStateOfCode_mod (n : Nat) : floorStateOfCode (n % 4) = floorStateOfCode n := by simp [floorStateOfCode]

/-- What a TIMING's octet 4 announces (07, section 7.1). -/
theorem announcedOf_octet {x : List Octet} (r : Option Role) (g : Nat) (f : FloorState)
    (h : x.getD 4 0#8 = BitVec.ofNat 8 (64 * (r.map Role.code).getD 0 + 8 * (g % 8) + 2 * f.code)) :
    announcedOf x = ⟨r.getD .anchored, gradeOfCode (BitVec.ofNat 3 g), f⟩ := by
  have role : roleOfCode ((r.map Role.code).getD 0) = r.getD .anchored := by
    cases r with
    | none => rfl
    | some r => exact roleOfCode_code r
  have low : (r.map Role.code).getD 0 < 4 := by
    cases r with
    | none => exact Nat.zero_lt_succ _
    | some r => exact r.code_lt
  have state := f.code_lt
  have value : octetAt x 4 = 64 * (r.map Role.code).getD 0 + 8 * (g % 8) + 2 * f.code := by
    rw [octetAt, h, BitVec.toNat_ofNat]
    omega
  have first : octetAt x 4 / 64 = (r.map Role.code).getD 0 := by omega
  have second : BitVec.ofNat 3 (octetAt x 4 / 8) = BitVec.ofNat 3 g := by
    refine BitVec.eq_of_toNat_eq ?_
    simp only [BitVec.toNat_ofNat]
    omega
  have third : octetAt x 4 / 2 % 4 = f.code := by omega
  unfold announcedOf
  dsimp only
  rw [first, second, role, ← floorStateOfCode_mod, third, floorStateOfCode_code]

/-- The octets before a TIMING's line list. -/
def timingHead (s : State) : List Octet :=
  [BitVec.ofNat 8 (16 + s.number), 0xFF#8, 0#8, 0#8,
    BitVec.ofNat 8 (64 * (s.steer.role.map Role.code).getD 0 + 8 * (s.steer.announced % 8) + 2 * s.floor.state.code),
    BitVec.ofNat 8 (flagValue s.floor.epochFirst + 2 * flagValue (decide (0 < s.steer.ownHold)) + 4 * flagValue s.urgent
      + 8 * flagValue s.nonurgent + 16 * flagValue s.flags.duplicate),
    s.setup.profile, BitVec.ofNat 8 s.floor.sequence, BitVec.ofNat 8 (listedLines s).length]

theorem timingBulletin_eq (s : State) : timingBulletin s = timingHead s ++ (listedLines s).flatMap (lineSummary s) := by
  unfold timingBulletin timingHead header
  rw [Nat.mod_eq_of_lt s.number_lt]
  rfl

theorem listedLines_length_le (s : State) : (listedLines s).length ≤ 16 := by
  unfold listedLines
  split
  · exact List.length_filter_le _ allLines
  · exact Nat.zero_le _

/-- Item `k` of a list of items of two octets each. -/
theorem getD_flatMap_two {α : Type} {f : α → List Octet} (two : ∀ a, (f a).length = 2) (xs : List α) (k j : Nat) (a : α)
    (item : xs[k]? = some a) (h : j < 2) : (xs.flatMap f).getD (2 * k + j) 0#8 = (f a).getD j 0#8 := by
  induction xs generalizing k with
  | nil => exact absurd item nofun
  | cons x xs ih =>
    rw [List.flatMap_cons]
    cases k with
    | zero =>
      obtain rfl : x = a := by simpa using item
      rw [List.getD_append _ _ _ _ (by rw [two]; omega), Nat.mul_zero, Nat.zero_add]
    | succ k =>
      rw [List.getD_append_right _ _ _ _ (by rw [two]; omega), two, show 2 * (k + 1) + j - 2 = 2 * k + j by omega]
      exact ih k (by simpa using item)

theorem length_flatMap_two {α : Type} {f : α → List Octet} (two : ∀ a, (f a).length = 2) (xs : List α) :
    (xs.flatMap f).length = 2 * xs.length := by
  induction xs with
  | nil => rfl
  | cons x xs ih => rw [List.flatMap_cons, List.length_append, two, ih, List.length_cons]; omega

theorem flagValue_lt (b : Bool) : flagValue b < 2 := by cases b <;> decide

theorem Align.code_lt (a : Align) : a.code < 4 := by cases a <;> decide

theorem anyLive_iff (x : Line) : x.anyLive = true ↔ ∃ c ∈ [LineCond.lof, .wander, .diverge, .degraded, .excess, .crosscheck],
    x.live c = true := by
  simp [Line.anyLive, Line.live, or_assoc]

/-- What a line list's entry says of a line (R131; 07, section 7.1). -/
theorem lineSummary_reads (s : State) (l : LineNo) :
    ∃ a b, lineSummary s l = [a, b] ∧ a.toNat % 16 = l.val ∧ a.toNat / 16 % 4 = (s.line l).lrx.align.code
      ∧ a.getLsbD 6 = (s.line l).mon.candidate ∧ a.getLsbD 7 = decide (s.selected = some l)
      ∧ b.toNat = (s.line l).lrx.grade % 8 + 8 * ((s.line l).anyLive).toNat := by
  have line : l.val < 16 := l.isLt
  have code := (s.line l).lrx.align.code_lt
  have c := flagValue_lt (s.line l).mon.candidate
  have d := flagValue_lt (s.selected == some l)
  have sum : lineOctet s l = l.val + 16 * (s.line l).lrx.align.code + 64 * flagValue (s.line l).mon.candidate
      + 128 * flagValue (s.selected == some l) := rfl
  have value : (BitVec.ofNat 8 (lineOctet s l)).toNat = lineOctet s l := by
    rw [BitVec.toNat_ofNat]
    omega
  have bit : ∀ k < 8, ∀ b : Bool, lineOctet s l / 2 ^ k % 2 = flagValue b → (BitVec.ofNat 8 (lineOctet s l)).getLsbD k = b := by
    intro k small b read
    rw [BitVec.getLsbD_ofNat, decide_eq_true small, Bool.true_and, Nat.testBit_eq_decide_div_mod_eq, read]
    cases b <;> rfl
  refine ⟨_, _, rfl, by omega, by omega, bit 6 (by omega) _ (by omega), (bit 7 (by omega) (s.selected == some l) (by omega)).trans
    (by cases h : decide (s.selected = some l) <;> simpa using h), ?_⟩
  have live := flagValue_lt (s.line l).anyLive
  rw [BitVec.toNat_ofNat]
  change ((s.line l).lrx.grade % 8 + 8 * flagValue (s.line l).anyLive) % 2 ^ 8 = (s.line l).lrx.grade % 8 + 8 * flagValue (s.line l).anyLive
  omega

/-- What a TIMING as built holds (R129 to R131). -/
theorem timingBulletin_reads (s : State) : ∃ x, timingBulletin s = x ∧ x.getD 0 0#8 = BitVec.ofNat 8 (16 + s.number)
    ∧ x.getD 1 0#8 = 0xFF#8
    ∧ announcedOf x = ⟨(s.steer.role).getD .anchored, gradeOfCode (BitVec.ofNat 3 s.steer.announced), s.floor.state⟩
    ∧ flagAt x 5 0 = s.floor.epochFirst ∧ flagAt x 5 1 = decide (0 < s.steer.ownHold)
    ∧ flagAt x 5 2 = s.urgent ∧ flagAt x 5 3 = s.nonurgent ∧ flagAt x 5 4 = s.flags.duplicate
    ∧ x.getD 6 0#8 = s.setup.profile ∧ x.getD 7 0#8 = BitVec.ofNat 8 s.floor.sequence
    ∧ octetAt x 8 = (listedLines s).length ∧ x.length = 9 + 2 * (listedLines s).length
    ∧ ∀ k j, j < 2 → ∀ l, (listedLines s)[k]? = some l → x.getD (9 + 2 * k + j) 0#8 = (lineSummary s l).getD j 0#8 := by
  have two : ∀ l, (lineSummary s l).length = 2 := fun _ => rfl
  have few := listedLines_length_le s
  have head : ∀ k < 9, (timingBulletin s).getD k 0#8 = (timingHead s).getD k 0#8 := fun k small => by
    rw [timingBulletin_eq, List.getD_append _ _ _ _ (by exact small)]
  obtain ⟨bit0, bit1, bit2, bit3, bit4⟩ :=
    flagOctet_bits s.floor.epochFirst (decide (0 < s.steer.ownHold)) s.urgent s.nonurgent s.flags.duplicate
  have flags : ∀ k, flagAt (timingBulletin s) 5 k = ((timingHead s).getD 5 0#8).getLsbD k := fun k => by
    rw [flagAt, head 5 (by omega)]
  refine ⟨_, rfl, head 0 (by omega), head 1 (by omega), announcedOf_octet _ _ _ (head 4 (by omega)), (flags 0).trans bit0,
    (flags 1).trans bit1, (flags 2).trans bit2, (flags 3).trans bit3, (flags 4).trans bit4, head 6 (by omega), head 7 (by omega),
    ?_, ?_, fun k j small l listed => ?_⟩
  · rw [octetAt, head 8 (by omega)]
    exact (BitVec.toNat_ofNat ..).trans (Nat.mod_eq_of_lt (by omega))
  · rw [timingBulletin_eq, List.length_append, length_flatMap_two two]
    rfl
  · rw [timingBulletin_eq, List.getD_append_right _ _ _ _ (by simp only [timingHead, List.length_cons, List.length_nil]; omega)]
    have at' : 9 + 2 * k + j - (timingHead s).length = 2 * k + j := by
      simp only [timingHead, List.length_cons, List.length_nil]
      omega
    rw [at', getD_flatMap_two two _ k j l listed small]

/-! ### Submission (R106, R108) -/

/-- What the submission of a TIMING leaves of the bus interface (R108). -/
theorem submitTiming_spec {s : State} (x : Bulletin) (takes : s.takesTimings = true)
    (free : ¬ (s.bus.timing.isSome = true ∧ s.bus.flying .timing = true ∧ s.bus.sending = true)) :
    (submitTiming x s).bus.timing = some x
      ∧ (∀ f, s.bus.flight = some f → (submitTiming x s).bus.flight
        = some (if s.bus.timing.isSome = true ∧ f.slot = .timing then { f with attempts := 0 } else f))
      ∧ (s.bus.flight = none → PickMade (submitTiming x s)) := by
  unfold submitTiming
  rw [if_neg (by simp [takes])]
  by_cases flies : s.bus.timing.isSome = true ∧ s.bus.flying .timing = true
  · rw [if_pos (by simp [flies]), if_neg (fun sends => free ⟨flies.1, flies.2, sends⟩)]
    refine ⟨rfl, fun f flight => ?_, fun none => ?_⟩
    · have slot : f.slot = .timing := by simpa [Bus.flying, flight] using flies.2
      simp [State.onBus, flight, flies.1, slot]
    · exact absurd flies.2 (by simp [Bus.flying, none])
  · rw [if_neg (by simpa using flies)]
    refine ⟨(pick_slots _).1, fun f flight => ?_, fun none => pickMade_pick none⟩
    have stays : ¬ (s.bus.timing.isSome = true ∧ f.slot = .timing) := fun h => flies ⟨h.1, by simp [Bus.flying, flight, h.2]⟩
    rw [if_neg stays, pick_of_flight _ f (by exact flight)]
    exact flight

/-- A TIMING that is not taken, or finds one in SENDING, leaves the bus interface as it is. -/
theorem submitTiming_refused {s : State} (x : Bulletin)
    (refused : s.takesTimings = false ∨ (s.bus.timing.isSome = true ∧ s.bus.flying .timing = true ∧ s.bus.sending = true)) :
    submitTiming x s = s := by
  unfold submitTiming
  rcases refused with h | ⟨held, flies, sends⟩
  · rw [if_pos (by simp [h])]
  · by_cases silent : (!s.takesTimings) = true
    · rw [if_pos silent]
    · have both : (s.bus.timing.isSome && s.bus.flying .timing) = true := by simp [held, flies]
      rw [if_neg silent, if_pos both, if_pos sends]

/-- A TIMING's submission touches its slot and the flight alone. -/
theorem submitTiming_onlySlot (x : Bulletin) (s : State) :
    { submitTiming x s with bus := { (submitTiming x s).bus with timing := s.bus.timing, flight := s.bus.flight } } = s := by
  unfold submitTiming
  split
  · rfl
  · split
    · split <;> rfl
    · rw [pick_spec]; rfl

/-- The submission of an INTRO, taken where the slot is empty (R106). -/
theorem submitIntro_spec (x : Bulletin) (s : State) :
    (submitIntro x s).bus.intro
        = (if s.standalone = false ∧ s.duplicate = false ∧ s.bus.intro = none then some x else s.bus.intro)
      ∧ (s.standalone = true ∨ s.duplicate = true ∨ s.bus.intro.isSome = true ∨ s.bus.flight.isSome = true →
        (submitIntro x s).bus.flight = s.bus.flight)
      ∧ (s.standalone = false → s.duplicate = false → s.bus.intro = none → s.bus.flight = none → PickMade (submitIntro x s))
      ∧ { submitIntro x s with bus := { (submitIntro x s).bus with intro := s.bus.intro, flight := s.bus.flight } } = s := by
  have empty : (s.takesTimings = true ∧ s.bus.intro = none) ↔ s.standalone = false ∧ s.duplicate = false ∧ s.bus.intro = none := by
    simp [State.takesTimings, and_assoc]
  unfold submitIntro
  by_cases taken : s.takesTimings = true ∧ s.bus.intro = none
  · rw [if_neg (by simp [taken]), if_pos (empty.mp taken)]
    obtain ⟨pair, loud, free⟩ := empty.mp taken
    refine ⟨(pick_slots _).2.2.1, fun stays => ?_, fun _ _ _ none => pickMade_pick none, by rw [pick_spec]; rfl⟩
    have flies : s.bus.flight.isSome = true := by simpa [pair, loud, free] using stays
    obtain ⟨f, flight⟩ := Option.isSome_iff_exists.mp flies
    rw [pick_of_flight _ f (by exact flight)]
    rfl
  · have refused : (!s.takesTimings || s.bus.intro.isSome) = true := by
      rw [Bool.or_eq_true, Bool.not_eq_true', Option.isSome_iff_ne_none]
      by_cases takes : s.takesTimings = true
      · exact .inr fun none => taken ⟨takes, none⟩
      · exact .inl (by simpa using takes)
    rw [if_pos refused, if_neg (fun h => taken (empty.mpr h))]
    exact ⟨rfl, fun _ => rfl, fun pair loud free => absurd (empty.mpr ⟨pair, loud, free⟩) taken, rfl⟩

theorem running_cases {s : State} (running : s.running = true) : s.floor.state = .start ∨ s.steered = true := by
  unfold State.running at running
  rw [s.steered_iff]
  cases h : s.floor.state with
  | loading => simp [h] at running
  | start => exact .inl rfl
  | acquire => exact .inr (.inl rfl)
  | track => exact .inr (.inr rfl)

theorem not_steered_of_start {s : State} (start : s.floor.state = .start) : s.steered = false := by
  simp [State.steered, start]

theorem exec_bulletinMark_intro {s : State} (running : s.running = true)
    (h : s.floor.state = .start ∨ s.floor.listenEnded = true) :
    exec .bulletinMark s = .next (submitIntro (s.introOf false) (s.took .bulletinMark)) := by
  have taken : (s.took .bulletinMark).floor.state = .start
      ∨ ((s.took .bulletinMark).running = true ∧ (s.took .bulletinMark).floor.listenEnded = true) := h.imp_right fun l => ⟨running, l⟩
  exact congrArg Host.Outcome.next (if_pos taken)

/-- The part as a TIMING built at a bulletin mark leaves it, its submission aside. -/
def State.timingBuilt (s : State) : State :=
  { s with
    due := s.due.erase .bulletinMark
    floor := { s.floor with sequence := (s.floor.sequence + 1) % 256, epochFirst := false } }

theorem exec_bulletinMark_timing {s : State} (steered : s.steered = true) (listens : s.floor.listenEnded = false) :
    exec .bulletinMark s = .next (submitTiming (timingBulletin s) s.timingBuilt) := by
  have not : ¬ ((s.took .bulletinMark).floor.state = .start
      ∨ ((s.took .bulletinMark).running = true ∧ (s.took .bulletinMark).floor.listenEnded = true)) := by
    rintro (start | ⟨-, ended⟩)
    · exact absurd (not_steered_of_start start) (ne_false_of_eq_true steered)
    · exact absurd (listens.symm.trans ended) nofun
  exact congrArg Host.Outcome.next ((if_neg not).trans (if_pos steered))

/-- Settles O39: the pins by their definitions, the INTRO by its submission, the TIMING by what it holds and its submission. -/
theorem bulletinMarkBuilds : Obligations.BulletinMarkBuilds := by
  intro s
  refine ⟨s.urgent_iff, s.nonurgent_iff, fun running => ?_⟩
  by_cases sendsIntro : s.floor.state = .start ∨ s.floor.listenEnded = true
  · obtain ⟨slot, stays, picks, frame⟩ := submitIntro_spec (s.introOf false) (s.took .bulletinMark)
    have content : s.introOf false
        = [BitVec.ofNat 8 (32 + s.number), 0xFF#8, s.setup.profile, BitVec.ofNat 8 s.setup.intervalCode, 0#8] := by
      simp [State.introOf, introBulletin, header, Nat.mod_eq_of_lt s.number_lt]
    refine ⟨_, exec_bulletinMark_intro running sendsIntro,
      fun _ => ⟨(congrArg State.floor frame :), ?_, (congrArg (fun u : State => u.bus.timing) frame :), stays, picks⟩,
      fun steered listens => ?_, (congrArg State.due frame :), ?_⟩
    · rw [slot, content]
      rfl
    · rcases sendsIntro with start | ended
      · exact absurd (not_steered_of_start start) (ne_false_of_eq_true steered)
      · exact absurd (listens.symm.trans ended) nofun
    · exact (congrArg (fun u : State => { u with
        floor := s.floor, due := s.due, bus := { u.bus with timing := s.bus.timing } }) frame :)
  · have steered : s.steered = true := (running_cases running).resolve_left fun h => sendsIntro (.inl h)
    have listens : s.floor.listenEnded = false := by simpa using fun h => sendsIntro (.inr h)
    have frame := submitTiming_onlySlot (timingBulletin s) s.timingBuilt
    refine ⟨_, exec_bulletinMark_timing steered listens, fun h => absurd h sendsIntro,
      fun _ _ => ⟨(congrArg State.floor frame :), ?_, fun refused => ?_, fun pair loud free => ?_⟩, (congrArg State.due frame :), ?_⟩
    · exact (congrArg (fun u : State => u.bus.intro) frame :)
    · refine (congrArg State.bus (submitTiming_refused (timingBulletin s) (s := s.timingBuilt) ?_) :)
      rcases refused with alone | silent | sends
      · exact .inl (Bool.eq_false_iff.mpr fun h => (takesTimings_iff s).mp h (.inl alone))
      · exact .inl (Bool.eq_false_iff.mpr fun h => (takesTimings_iff s).mp h (.inr silent))
      · exact .inr sends
    · have takes : s.timingBuilt.takesTimings = true := (takesTimings_iff s).mpr (by simp [pair, loud])
      obtain ⟨slot, flight, picks⟩ := submitTiming_spec (s := s.timingBuilt) (timingBulletin s) takes free
      refine ⟨⟨_, slot, ?_⟩, flight, picks⟩
      obtain ⟨x, e, kind, dest, announced, first, hold, urgent, nonurgent, duplicate, profile, sequence, count, length, items⟩ :=
        timingBulletin_reads s
      have listed : (listedLines s).length = if s.floor.epochFirst = true then s.enabledLines.length else 0 := by
        unfold listedLines
        split <;> rfl
      rw [e]
      refine ⟨kind, dest, announced, first, hold, urgent, nonurgent, duplicate, profile, sequence, count.trans listed,
        by rw [length, count], fun epochFirst k l item => ?_⟩
      have item' : (listedLines s)[k.val]? = some l := by rw [listedLines, if_pos epochFirst]; exact item
      obtain ⟨a, b, summary, number, align, candidate, selected, grade⟩ := lineSummary_reads s l
      have low : x.getD (9 + 2 * k.val) 0#8 = a := by rw [← Nat.add_zero (9 + 2 * k.val), items k 0 (by omega) l item', summary]; rfl
      have high : x.getD (10 + 2 * k.val) 0#8 = b := by
        rw [show 10 + 2 * k.val = 9 + 2 * k.val + 1 by omega, items k 1 (by omega) l item', summary]; rfl
      rw [octetAt, octetAt, flagAt, flagAt, low, high, grade]
      refine ⟨number, align.trans ?_, candidate, selected, ?_⟩
      · cases (s.line l).lrx.align <;> rfl
      · exact congrArg (fun b : Bool => (s.line l).lrx.grade % 8 + 8 * b.toNat)
          (Bool.eq_iff_iff.mpr ((anyLive_iff _).trans decide_eq_true_iff.symm))
    · exact (congrArg (fun u : State => { u with
        floor := s.floor, due := s.due, bus := { u.bus with intro := s.bus.intro } }) frame :)

end Sys2Proof.Machine
end

section
/-! The service of TIMING, INTRO and HOLD on the sender's entry (08, sections 8.2 to 8.6). -/

namespace Sys2Proof.Machine

/-! ### An entry put into the table -/

theorem peerOf_source {p : PeerNo} {n : Nat} (h : n = p.val) : peerOf n = p := by
  subst h
  exact Fin.ext (Nat.mod_eq_of_lt p.isLt)

theorem popped_setPeer_peer (s : State) (p : PeerNo) (e : Peer) : (s.popped.setPeer p e).peer p = e :=
  Vector.getElem_set_self ..

theorem popped_setPeer_onlyPeer (s : State) (p : PeerNo) (e : Peer) : OnlyPeer p s (s.popped.setPeer p e) := by
  refine ⟨fun q other => ?_, rfl, rfl⟩
  exact Vector.getElem_set_ne p.isLt q.isLt (fun same => other (Fin.ext same.symm))

/-- An entry put into the table latches PROFILE where it has just become live (R141). -/
theorem popped_putPeer_eq (s : State) (p : PeerNo) (e : Peer) :
    s.popped.putPeer p e = { s.popped.setPeer p e with flags := { s.flags with
      profile := s.flags.profile || (profileLive (s.popped.setPeer p e).peers && !profileLive s.peers) } } :=
  latchProfile_spec s.peers (s.popped.setPeer p e)

/-- A putting of the sender's entry, at the state it leaves. -/
theorem popped_putPeer_spec (s : State) (p : PeerNo) (e : Peer) :
    (s.popped.putPeer p e).peer p = e
      ∧ (s.popped.putPeer p e).flags.profile
        = (s.flags.profile || (profileLive (s.popped.putPeer p e).peers && !profileLive s.peers))
      ∧ (s.popped.putPeer p e).bus = s.bus ∧ OnlyPeer p s (s.popped.putPeer p e) := by
  obtain ⟨others, queue, -⟩ := popped_setPeer_onlyPeer s p e
  rw [popped_putPeer_eq]
  exact ⟨popped_setPeer_peer s p e, rfl, rfl, others, queue, rfl⟩

/-! ### The entry a bulletin is served for (R139, R141) -/

theorem entryFor_own (own : Octet) (generation : Nat) (e : Peer) : entryFor own own generation e
    = if e.state = .absent then { state := .joining, profile := own, generation := generation }
      else { e with
        profile := own, state := if e.state = .mismatched then .joining else e.state
        firstMark := if e.state = .mismatched then false else e.firstMark } := by
  obtain ⟨state, _, _, _, _, _, _, _, _, _, _, _, _, _⟩ := e
  cases state <;> simp [entryFor, newPeer, profileCheck]

theorem entryFor_other {own code : Octet} (h : code ≠ own) (generation : Nat) (e : Peer) : entryFor own code generation e
    = if e.state = .absent then { state := .mismatched, profile := code, generation := generation }
      else if e.state = .mismatched then { e with profile := code }
      else { e with
        profile := code, state := .mismatched, sum := 0, count := 0, generation := generation, hold := 0, firstMark := false } := by
  obtain ⟨state, _, _, _, _, _, _, _, _, _, _, _, _, _⟩ := e
  cases state <;> simp [entryFor, newPeer, profileCheck, h]

theorem entryFor_sequence (own code : Octet) (generation : Nat) (e : Peer) :
    (entryFor own code generation e).lastSeq = (if e.state = .absent then none else e.lastSeq)
      ∧ (entryFor own code generation e).missed = (if e.state = .absent then 0 else e.missed) := by
  by_cases code' : code = own
  · rw [code', entryFor_own]
    split <;> exact ⟨rfl, rfl⟩
  · rw [entryFor_other code']
    split
    · exact ⟨rfl, rfl⟩
    · split <;> exact ⟨rfl, rfl⟩

/-! ### TIMING (R142 to R146) -/

theorem timingState_frame (since : Nat) (e : Peer) :
    { timingState since e with state := e.state, firstMark := e.firstMark } = e := by
  unfold timingState
  split
  · split
    · split <;> rfl
    · rfl
  · rfl
  · rfl

theorem accumulate_frame (arrival standing : Nat) (x : Int) (e : Peer) :
    { accumulate arrival standing x e with sum := e.sum, count := e.count, generation := e.generation } = e := by
  unfold accumulate
  split
  · split <;> dsimp only <;> split <;> rfl
  · rfl

/-- A sample taken: the sums start anew under another generation (R146). -/
theorem accumulate_taken {arrival standing : Nat} (x : Int) {e : Peer} {c : Nat} {z : Int} (same : arrival = standing)
    (start : (c, z) = if e.generation ≠ standing then (0, 0) else (e.count, e.sum)) (room : c < 255) :
    (accumulate arrival standing x e).count = c + 1 ∧ (accumulate arrival standing x e).generation = standing
      ∧ (accumulate arrival standing x e).sum = z + x := by
  unfold accumulate
  rw [if_pos same]
  by_cases current : e.generation = standing
  · rw [if_neg (not_not.mpr current)] at start
    obtain ⟨rfl, rfl⟩ := Prod.mk.inj start
    simp [current, room]
  · rw [if_pos current] at start
    obtain ⟨rfl, rfl⟩ := Prod.mk.inj start
    simp [current]

/-- A sample left out: of another generation, or behind 255 of this one. -/
theorem accumulate_left {arrival standing : Nat} (x : Int) {e : Peer}
    (h : arrival ≠ standing ∨ (e.generation = standing ∧ 255 ≤ e.count)) : accumulate arrival standing x e = e := by
  unfold accumulate
  split
  · next same =>
    obtain ⟨current, full⟩ := h.resolve_left (not_not.mpr same)
    rw [if_pos current, if_neg (by omega)]
  · rfl

theorem seqGap_eq (new last : Nat) (h : last < 256) : seqGap new last = (((new : Int) - last - 1) % 256).toNat := by
  unfold seqGap
  omega

/-- The entry as a TIMING notes it, its state and its sample aside (R142, R144). -/
def timingNoted (q : RxEntry) (e : Peer) : Peer :=
  trackSequence (octetAt q.octets 7) { e with
    sinceAny := 0, sinceTiming := 0, announced := some (announcedOf q.octets)
    urgent := flagAt q.octets 5 2, nonurgent := flagAt q.octets 5 3 }

theorem timingNoted_eq (q : RxEntry) (e : Peer) : timingNoted q e = { e with
    sinceAny := 0, sinceTiming := 0, announced := some (announcedOf q.octets)
    urgent := flagAt q.octets 5 2, nonurgent := flagAt q.octets 5 3, lastSeq := some (octetAt q.octets 7)
    missed := match e.lastSeq with
      | none => e.missed
      | some n => min 255 (e.missed + seqGap (octetAt q.octets 7) n) } := by
  unfold timingNoted trackSequence
  cases e.lastSeq <;> rfl

/-- The entry behind the state's step of a TIMING's service. -/
def timingMoved (own : Octet) (standing : Nat) (q : RxEntry) (e : Peer) : Peer :=
  timingState (entryFor own (q.octets.getD 6 0#8) standing e).sinceTiming
    (timingNoted q (entryFor own (q.octets.getD 6 0#8) standing e))

theorem timingServed_eq (own : Octet) (standing delay : Nat) (q : RxEntry) (e : Peer) :
    timingServed own standing delay q e = if (timingMoved own standing q e).state = .mismatched then timingMoved own standing q e
      else accumulate q.generation standing (sampleOf q.stamp (launchStampOf q.octets) delay) (timingMoved own standing q e) := rfl

/-- Besides its state, its mark and its sums, a TIMING's service leaves what it notes. -/
theorem timingServed_frame (own : Octet) (standing delay : Nat) (q : RxEntry) (e : Peer) :
    { timingServed own standing delay q e with
      state := (entryFor own (q.octets.getD 6 0#8) standing e).state
      firstMark := (entryFor own (q.octets.getD 6 0#8) standing e).firstMark
      sum := (entryFor own (q.octets.getD 6 0#8) standing e).sum, count := (entryFor own (q.octets.getD 6 0#8) standing e).count
      generation := (entryFor own (q.octets.getD 6 0#8) standing e).generation }
      = timingNoted q (entryFor own (q.octets.getD 6 0#8) standing e) := by
  rw [timingServed_eq, timingMoved]
  generalize entryFor own (q.octets.getD 6 0#8) standing e = entry
  obtain ⟨state, mark, sum, count, generation⟩ : (timingNoted q entry).state = entry.state
      ∧ (timingNoted q entry).firstMark = entry.firstMark ∧ (timingNoted q entry).sum = entry.sum
      ∧ (timingNoted q entry).count = entry.count ∧ (timingNoted q entry).generation = entry.generation := by
    rw [timingNoted_eq]
    exact ⟨rfl, rfl, rfl, rfl, rfl⟩
  rw [← state, ← mark, ← sum, ← count, ← generation]
  generalize timingNoted q entry = noted
  have moved := timingState_frame entry.sinceTiming noted
  split
  · exact (congrArg (fun x : Peer => { x with sum := noted.sum, count := noted.count, generation := noted.generation }) moved :)
  · exact (congrArg (fun x : Peer => { x with
      state := noted.state, firstMark := noted.firstMark, sum := noted.sum, count := noted.count
      generation := noted.generation }) (accumulate_frame ..) :).trans
        (congrArg (fun x : Peer => { x with sum := noted.sum, count := noted.count, generation := noted.generation }) moved :)

/-- A TIMING of another profile: the entry is noted and takes no part. -/
theorem timingServed_other {own : Octet} {q : RxEntry} (h : q.octets.getD 6 0#8 ≠ own) (standing delay : Nat) (e : Peer) :
    timingServed own standing delay q e = timingNoted q (entryFor own (q.octets.getD 6 0#8) standing e) := by
  have apart : (timingNoted q (entryFor own (q.octets.getD 6 0#8) standing e)).state = .mismatched := by
    rw [timingNoted_eq, entryFor_other h]
    dsimp only
    split
    · rfl
    · split
      · next same => exact same
      · rfl
  have stays : timingMoved own standing q e = timingNoted q (entryFor own (q.octets.getD 6 0#8) standing e) := by
    unfold timingMoved timingState
    rw [apart]
  rw [timingServed_eq, stays, if_pos apart]

/-- A TIMING of the own profile: the state moves on, and the sample is taken. -/
theorem timingServed_own {own : Octet} {q : RxEntry} (h : q.octets.getD 6 0#8 = own) (standing delay : Nat) (e : Peer) :
    timingServed own standing delay q e = accumulate q.generation standing (sampleOf q.stamp (launchStampOf q.octets) delay)
      (timingMoved own standing q e) := by
  have joins : (timingMoved own standing q e).state ≠ .mismatched := by
    have known : (timingNoted q (entryFor own (q.octets.getD 6 0#8) standing e)).state ≠ .mismatched := by
      rw [timingNoted_eq, h, entryFor_own]
      dsimp only
      split
      · exact nofun
      · dsimp only
        split
        · exact nofun
        · next known => exact known
    unfold timingMoved timingState
    split
    · split
      · split
        · exact nofun
        · exact known
      · exact known
    · exact nofun
    · exact known
  rw [timingServed_eq, if_neg joins]

theorem exec_serveTiming {p : PeerNo} {q : RxEntry} {s : State} (served : HeadServed 1 q s) (source : sourceOf q.octets = p.val) :
    exec .serveTiming s = .next (s.popped.putPeer p
      (timingServed s.setup.profile s.floor.generation s.setup.delayComp q (s.peer p))) := by
  change execServeTiming s = _
  unfold execServeTiming
  rw [headOfKind_of_headServed served]
  dsimp only
  rw [peerOf_source source]

/-! ### INTRO and HOLD (R147 to R149) -/

theorem introServed_absent (own : Octet) (standing : Nat) (o : List Octet) {e : Peer} (absent : e.state = .absent) :
    introServed own standing o e = { ({} : Peer) with
      state := if o.getD 2 0#8 = own then .joining else .mismatched, profile := o.getD 2 0#8, generation := standing } := by
  unfold introServed entryFor
  rw [if_pos (.inr absent), if_pos absent]
  rfl

theorem introServed_own {own : Octet} (standing : Nat) {o : List Octet} {e : Peer} (known : e.state ≠ .absent)
    (code : o.getD 2 0#8 = own) :
    introServed own standing o e = { e with
      profile := o.getD 2 0#8, sinceAny := 0
      state := if e.state = .mismatched ∨ flagAt o 4 0 = false then .joining else e.state
      firstMark := if e.state = .mismatched ∨ (flagAt o 4 0 = false ∧ e.state ≠ .joining) then false else e.firstMark } := by
  unfold introServed
  rw [code, entryFor_own, if_neg known]
  obtain ⟨state, _, _, _, _, _, _, _, _, _, _, _, _, _⟩ := e
  cases state <;> cases flag : flagAt o 4 0 <;> simp_all [introRestart]

theorem introServed_other {own : Octet} (standing : Nat) {o : List Octet} {e : Peer} (known : e.state ≠ .absent)
    (code : o.getD 2 0#8 ≠ own) :
    introServed own standing o e = if e.state = .mismatched then { e with profile := o.getD 2 0#8, sinceAny := 0 }
      else { e with
        profile := o.getD 2 0#8, sinceAny := 0, state := .mismatched, sum := 0, count := 0
        generation := standing, hold := 0, firstMark := false } := by
  unfold introServed
  rw [entryFor_other code, if_neg known]
  by_cases mismatched : e.state = .mismatched
  · rw [if_pos mismatched, if_pos mismatched]
    simp [introRestart, mismatched]
  · rw [if_neg mismatched, if_neg mismatched]
    simp [introRestart]

theorem exec_serveIntro {p : PeerNo} {q : RxEntry} {s : State} (served : HeadServed 2 q s) (source : sourceOf q.octets = p.val) :
    exec .serveIntro s = .next (if (s.peer p).state = .absent ∧ flagAt q.octets 4 0 = false
      then submitIntro (s.introOf true) (s.popped.putPeer p (introServed s.setup.profile s.floor.generation q.octets (s.peer p)))
      else s.popped.putPeer p (introServed s.setup.profile s.floor.generation q.octets (s.peer p))) := by
  have same : ∀ e, (s.popped.putPeer p e).introOf true = s.introOf true := fun e => by rw [popped_putPeer_eq]; rfl
  change execServeIntro s = _
  unfold execServeIntro
  rw [headOfKind_of_headServed served]
  dsimp only
  rw [peerOf_source source, same]

theorem exec_serveHold {p : PeerNo} {q : RxEntry} {s : State} (served : HeadServed 3 q s) (source : sourceOf q.octets = p.val) :
    exec .serveHold s = .next (s.popped.setPeer p (holdServed (octetAt q.octets 2) (s.peer p))) := by
  change execServeHold s = _
  unfold execServeHold
  rw [headOfKind_of_headServed served]
  dsimp only
  rw [peerOf_source source]

/-- Settles O49, by the states of the sender's entry. -/
theorem serveHoldSetsHold : Obligations.ServeHoldSetsHold := by
  intro p q s served source
  refine ⟨_, exec_serveHold served source, fun known => ?_, fun mismatched => ?_, fun absent => ?_, rfl, rfl,
    popped_setPeer_onlyPeer s p _⟩
  · rw [popped_setPeer_peer]
    have raised : ∀ n : Nat, (if n = 0 then 0 else max (s.peer p).hold n)
        = if n = 0 then 0 else if (s.peer p).hold < n then n else (s.peer p).hold := fun n => by
      split
      · rfl
      · split <;> omega
    unfold holdServed
    rw [raised]
    split
    · next absent => simp [absent] at known
    · next mismatched => simp [mismatched] at known
    · rfl
  · rw [popped_setPeer_peer]
    unfold holdServed
    split
    · next absent => cases mismatched.symm.trans absent
    · rfl
    · next other => exact absurd mismatched other
  · rw [popped_setPeer_peer]
    unfold holdServed
    split
    · rfl
    · next mismatched => cases absent.symm.trans mismatched
    · next other _ => exact absurd absent other

/-- What the service of an INTRO leaves: the entry served, and the answer's submission where the entry is new (R148). -/
theorem serveIntro_spec {p : PeerNo} {q : RxEntry} {s : State} (served : HeadServed 2 q s) (source : sourceOf q.octets = p.val) :
    ∃ t, exec .serveIntro s = .next t
      ∧ t.peer p = introServed s.setup.profile s.floor.generation q.octets (s.peer p)
      ∧ t.flags.profile = (s.flags.profile || (profileLive t.peers && !profileLive s.peers)) ∧ OnlyPeer p s t
      ∧ (¬ ((s.peer p).state = .absent ∧ flagAt q.octets 4 0 = false) → t.bus = s.bus)
      ∧ ((s.peer p).state = .absent ∧ flagAt q.octets 4 0 = false →
        t.bus.intro = (if s.standalone = false ∧ s.duplicate = false ∧ s.bus.intro = none then some (s.introOf true)
          else s.bus.intro)
        ∧ (s.standalone = true ∨ s.duplicate = true ∨ s.bus.intro.isSome = true ∨ s.bus.flight.isSome = true →
          t.bus.flight = s.bus.flight)
        ∧ (s.standalone = false → s.duplicate = false → s.bus.intro = none → s.bus.flight = none → PickMade t)) := by
  obtain ⟨entry, profile, bus, others, queue, rest⟩ := popped_putPeer_spec s p
    (introServed s.setup.profile s.floor.generation q.octets (s.peer p))
  have taken := exec_serveIntro served source
  generalize s.popped.putPeer p (introServed s.setup.profile s.floor.generation q.octets (s.peer p)) = u at *
  have standalone : u.standalone = s.standalone := (congrArg State.standalone rest :)
  have duplicate : u.duplicate = s.duplicate := (congrArg State.duplicate rest :)
  by_cases answers : (s.peer p).state = .absent ∧ flagAt q.octets 4 0 = false
  · rw [if_pos answers] at taken
    obtain ⟨slot, stays, picks, frame⟩ := submitIntro_spec (s.introOf true) u
    rw [standalone, duplicate, bus] at slot stays picks
    have peers : (submitIntro (s.introOf true) u).peers = u.peers := (congrArg State.peers frame :)
    refine ⟨_, taken, ?_, ?_, ⟨fun r other => ?_, ?_, ?_⟩, fun h => absurd answers h, fun _ => ⟨slot, stays, picks⟩⟩
    · rw [← entry, State.peer, peers]
      rfl
    · rw [peers, ← profile]
      exact (congrArg (fun v : State => v.flags.profile) frame :)
    · rw [← others r other, State.peer, peers]
      rfl
    · exact (congrArg State.queue frame :).trans queue
    · exact (congrArg (fun v : State => { v with
        peers := s.peers, queue := s.queue, flags := { v.flags with profile := s.flags.profile }
        bus := { v.bus with intro := s.bus.intro, flight := s.bus.flight } }) frame :).trans rest
  · rw [if_neg answers] at taken
    exact ⟨u, taken, entry, profile, ⟨others, queue, rest⟩, fun _ => bus, fun h => absurd h answers⟩

/-- Settles O48: the entry by `introServed_absent`, `introServed_own` and `introServed_other`, the answer by its submission. -/
theorem serveIntroUpdatesEntry : Obligations.ServeIntroUpdatesEntry := by
  intro p q s served source
  obtain ⟨t, taken, entry, profile, only, silent, answer⟩ := serveIntro_spec served source
  have content : s.introOf true
      = [BitVec.ofNat 8 (32 + s.number), 0xFF#8, s.setup.profile, BitVec.ofNat 8 s.setup.intervalCode, 1#8] := by
    simp [State.introOf, introBulletin, header, Nat.mod_eq_of_lt s.number_lt]
  refine ⟨t, taken, fun absent => entry.trans (introServed_absent _ _ _ absent),
    fun known code => entry.trans (introServed_own _ known code), fun known code => entry.trans (introServed_other _ known code),
    ?_, fun absent asks pair loud free none => (answer ⟨absent, asks⟩).2.2 pair loud free none, fun silentOr => ?_, profile, only⟩
  · by_cases answers : (s.peer p).state = .absent ∧ flagAt q.octets 4 0 = false
    · obtain ⟨slot, -, -⟩ := answer answers
      rw [slot, content]
      simp [answers]
    · rw [silent answers, if_neg (fun h => answers ⟨h.1, h.2.1⟩)]
  · by_cases answers : (s.peer p).state = .absent ∧ flagAt q.octets 4 0 = false
    · obtain ⟨-, stays, -⟩ := answer answers
      refine stays ?_
      by_contra free
      simp only [not_or, Bool.not_eq_true, Option.isSome_eq_false_iff, Option.isNone_iff_eq_none] at free
      exact silentOr ⟨answers.1, answers.2, free⟩
    · rw [silent answers]

/-- The state and the mark of a first TIMING behind one of the own profile (R142 step 5, R143). -/
def ownState (e : Peer) : PeerState × Bool :=
  match e.state with
  | .joining => if e.firstMark = true ∧ e.sinceTiming ≤ 1 then (.active, false) else (.joining, true)
  | .absent => (.joining, true)
  | .mismatched => (.joining, true)
  | .active => (.active, e.firstMark)
  | .stale => (.active, e.firstMark)

theorem timingMoved_own {own : Octet} {q : RxEntry} (h : q.octets.getD 6 0#8 = own) (standing : Nat) (e : Peer) :
    ((timingMoved own standing q e).state, (timingMoved own standing q e).firstMark) = ownState e
      ∧ ((timingMoved own standing q e).count, (timingMoved own standing q e).sum)
        = (if e.state = .absent then (0, 0) else (e.count, e.sum))
      ∧ (timingMoved own standing q e).generation = if e.state = .absent then standing else e.generation := by
  unfold timingMoved
  rw [h, entryFor_own, timingNoted_eq]
  unfold timingState ownState
  cases state : e.state with
  | joining =>
    cases mark : e.firstMark <;> by_cases soon : e.sinceTiming ≤ 1 <;> simp [soon]
  | _ => simp

/-- Settles O47: another profile by `timingServed_other`, the own one by `timingServed_own`, what is noted by
`timingServed_frame`. -/
theorem serveTimingUpdatesEntry : Obligations.ServeTimingUpdatesEntry := by
  intro p q s served source sequence
  obtain ⟨entry, profile, bus, only⟩ := popped_putPeer_spec s p
    (timingServed s.setup.profile s.floor.generation s.setup.delayComp q (s.peer p))
  have taken := exec_serveTiming served source
  have noted := timingServed_frame s.setup.profile s.floor.generation s.setup.delayComp q (s.peer p)
  rw [← entry, timingNoted_eq] at noted
  generalize s.popped.putPeer p (timingServed s.setup.profile s.floor.generation s.setup.delayComp q (s.peer p)) = t at *
  refine ⟨t, taken, fun code => ?other, fun code => ?own, (congrArg Peer.announced noted :), ?profile, (congrArg Peer.urgent noted :),
    (congrArg Peer.nonurgent noted :), (congrArg Peer.sinceAny noted :), (congrArg Peer.sinceTiming noted :),
    (congrArg Peer.lastSeq noted :), ?missed, profile, bus, only⟩
  case profile =>
    refine (congrArg Peer.profile noted :).trans ?_
    by_cases code : q.octets.getD 6 0#8 = s.setup.profile
    · rw [code, entryFor_own]
      split <;> rfl
    · rw [entryFor_other code]
      split
      · rfl
      · split <;> rfl
  case missed =>
    refine (congrArg Peer.missed noted :).trans ?_
    obtain ⟨last, missed⟩ := entryFor_sequence s.setup.profile (q.octets.getD 6 0#8) s.floor.generation (s.peer p)
    rw [last, missed]
    by_cases absent : (s.peer p).state = .absent
    · simp [absent]
    · simp only [absent, if_false]
      cases before : (s.peer p).lastSeq with
      | none => rfl
      | some n => exact congrArg (fun k => min 255 ((s.peer p).missed + k)) (seqGap_eq _ n (sequence n before))
  case other =>
    rw [entry, timingServed_other code, timingNoted_eq, entryFor_other code]
    dsimp only
    by_cases absent : (s.peer p).state = .absent
    · simp [absent]
    · by_cases mismatched : (s.peer p).state = .mismatched <;> simp [absent, mismatched]
  case own =>
    have served' := entry.trans (timingServed_own code s.floor.generation s.setup.delayComp (s.peer p))
    have frame := accumulate_frame q.generation s.floor.generation
      (sampleOf q.stamp (launchStampOf q.octets) s.setup.delayComp) (timingMoved s.setup.profile s.floor.generation q (s.peer p))
    rw [← served'] at frame
    obtain ⟨moved, sums, generation⟩ := timingMoved_own code s.floor.generation (s.peer p)
    have stateMark : ((t.peer p).state, (t.peer p).firstMark) = ownState (s.peer p) :=
      (congrArg (fun x : Peer => (x.state, x.firstMark)) frame :).trans moved
    obtain ⟨state, mark⟩ := Prod.mk.inj (stateMark.trans (Prod.mk.eta (p := ownState (s.peer p))).symm)
    rw [state, mark]
    refine ⟨?_, fun new => ?_, fun joining => ?_, fun stands => ?_, fun c z start same room => ?_, fun known full => ?_⟩
    · refine (congrArg Peer.hold noted :).trans ?_
      rw [code, entryFor_own]
      split <;> rfl
    · unfold ownState
      rcases new with h | h <;> rw [h] <;> exact ⟨rfl, rfl⟩
    · unfold ownState
      rw [joining]
      split <;> exact ⟨rfl, rfl⟩
    · unfold ownState
      rcases stands with h | h <;> rw [h] <;> exact ⟨rfl, rfl⟩
    · rw [served']
      refine accumulate_taken _ same ?_ room
      rw [start, sums, generation]
      by_cases absent : (s.peer p).state = .absent <;> simp [absent]
    · obtain ⟨count, sum⟩ := Prod.mk.inj (sums.trans (if_neg known))
      rw [if_neg known] at generation
      rw [served', accumulate_left _ (by rwa [generation, count]), count, sum, generation]
      exact ⟨rfl, rfl, rfl⟩

end Sys2Proof.Machine
end

section
/-! The image, the hand-over into START and the soft restart (10, sections 10.2, 10.3, 10.5 and 10.6). -/

namespace Sys2Proof.Machine

/-! ### A pass over lines, each changed by its own -/

/-- A pass that changes each line by a function of it alone, as long as `P` holds of what it finds besides the lines. -/
theorem forLines_line_of {P : State → Prop} {f : State → LineNo → State} {h : LineNo → Line → Line}
    (change : ∀ t l, P t → f t l = t.setLine l (h l (t.line l))) (keeps : ∀ t l x, P t → P (t.setLine l x))
    {ls : List LineNo} (nodup : ls.Nodup) {s : State} (start : P s) (m : LineNo) :
    (s.forLines ls f).line m = if m ∈ ls then h m (s.line m) else s.line m := by
  induction ls generalizing s with
  | nil => simp [State.forLines]
  | cons l ls ih =>
    obtain ⟨fresh, nodup⟩ := List.nodup_cons.mp nodup
    have tail := ih nodup (keeps s l (h l (s.line l)) start)
    rw [← change s l start] at tail
    change ((f s l).forLines ls f).line m = _
    rw [tail, change s l start, State.line_setLine]
    by_cases e : m = l
    · subst e
      simp [fresh]
    · simp [e]

/-- Such a pass touches the lines alone. -/
theorem forLines_frame_of {P : State → Prop} {f : State → LineNo → State} {h : LineNo → Line → Line}
    (change : ∀ t l, P t → f t l = t.setLine l (h l (t.line l))) (keeps : ∀ t l x, P t → P (t.setLine l x))
    (ls : List LineNo) {s : State} (start : P s) : { s.forLines ls f with lines := s.lines } = s := by
  induction ls generalizing s with
  | nil => rfl
  | cons l ls ih =>
    have tail := ih (keeps s l (h l (s.line l)) start)
    rw [← change s l start] at tail
    have one : { f s l with lines := s.lines } = s := by rw [change s l start]; rfl
    exact (congrArg (fun t : State => { t with lines := s.lines }) tail :).trans one

/-! ### The image (R173, R174) -/

theorem octetAt_lt (x : List Octet) (k : Nat) : octetAt x k < 256 := (x.getD k 0#8).isLt

theorem intoRange_nearest {lo hi : Nat} (h : lo ≤ hi) (x : Nat) : Nearest lo hi x (intoRange lo hi x) := by
  unfold Nearest intoRange
  split
  · omega
  · split <;> omega

theorem image16_testBit (img : List Octet) (k : Nat) (l : LineNo) :
    (image16 img k).testBit l.val = (octetAt img (k + l.val / 8)).testBit (l.val % 8) := by
  have low := octetAt_lt img k
  have line : l.val < 16 := l.isLt
  unfold image16
  rw [Nat.add_comm, show 256 = 2 ^ 8 from rfl, Nat.testBit_two_pow_mul_add _ low]
  by_cases first : l.val < 8
  · rw [if_pos first, Nat.div_eq_of_lt first, Nat.mod_eq_of_lt first]
    rfl
  · rw [if_neg first, show l.val / 8 = 1 by omega, show l.val % 8 = l.val - 8 by omega]

theorem foldl_set_lines {α : Type} (g : LineNo → α) (ls : List LineNo) (v : Vector α 16) (m : LineNo) :
    (ls.foldl (fun v (l : LineNo) => v.set l (g l)) v).get m = if m ∈ ls then g m else v.get m := by
  induction ls generalizing v with
  | nil => simp
  | cons l ls ih =>
    rw [List.foldl_cons, ih]
    by_cases later : m ∈ ls
    · simp [later]
    · rw [if_neg later]
      by_cases now : m = l
      · subst now
        rw [if_pos (by simp)]
        exact Vector.getElem_set_self ..
      · rw [if_neg (by simp [now, later])]
        exact Vector.getElem_set_ne l.isLt m.isLt (fun same => now (Fin.ext same.symm))

theorem decodeImage_line (img : List Octet) (l : LineNo) : (decodeImage img).lines.get l = decodeLine img l.val :=
  (foldl_set_lines (fun l : LineNo => decodeLine img l.val) allLines _ l).trans (if_pos (mem_allLines l))

theorem configured_of_good {img : List Octet} (first : img.getD 0 0#8 = 0x56#8) (second : img.getD 1 0#8 = 0x52#8) :
    configured img = decodeImage img := by
  unfold configured signatureGood
  rw [if_pos (by rw [first, second]; rfl)]

theorem configured_of_bad {img : List Octet} (bad : img.getD 0 0#8 ≠ 0x56#8 ∨ img.getD 1 0#8 ≠ 0x52#8) : configured img = {} := by
  unfold configured signatureGood
  rw [if_neg]
  simp only [Bool.and_eq_true, beq_iff_eq]
  rintro ⟨first, second⟩
  exact bad.elim (· first) (· second)

/-- Settles O5: a bad signature by the defaults, a good one field by field. -/
theorem imageGivesConfiguration : Obligations.ImageGivesConfiguration := by
  intro img
  refine ⟨fun bad => ?_, fun first second => ?_⟩
  · rw [configured_of_bad bad]
    refine ⟨rfl, rfl, rfl, rfl, rfl, rfl, rfl, rfl, rfl, rfl, rfl, rfl, rfl, rfl, rfl, rfl, rfl, fun l => ?_⟩
    exact Vector.getElem_replicate ..
  · rw [configured_of_good first second]
    have o := octetAt_lt img
    have o12 := o 12
    have o14 := o 14
    have o15 := o 15
    have o16 := o 16
    have o17 := o 17
    have packed : image32 img 14 = octetAt img 14 + 256 * octetAt img 15 + 65536 * octetAt img 16 + 16777216 * octetAt img 17 := by
      simp only [image32, image16, Nat.reduceAdd]
      omega
    have bit : ∀ k j : Nat, j < 8 → (octetAt img k).testBit j = decide (octetAt img k / 2 ^ j % 2 = 1) := fun k j _ =>
      Nat.testBit_eq_decide_div_mod_eq
    refine ⟨rfl, rfl, intoRange_nearest (by omega) _, intoRange_nearest (by omega) _, intoRange_nearest (by omega) _, ?_, ?_, rfl,
      intoRange_nearest (by omega) _, ?_, ?_, ?_, ?_, ?_, ?_, ?_, ?_, fun l => ?_⟩
    · have window : image16 img 11 % 1024 = octetAt img 11 + 256 * (octetAt img 12 % 4) := by
        have := o 11
        simp only [image16, Nat.reduceAdd]
        omega
      rw [← window]
      exact intoRange_nearest (by omega) _
    · have := o 11
      change image16 img 11 / 1024 = _
      simp only [image16, Nat.reduceAdd]
      omega
    · change image32 img 14 % 32 = _
      omega
    · change image32 img 14 / 32 % 32 = _
      omega
    · change image32 img 14 / 1024 % 32 = _
      omega
    · change image32 img 14 / 32768 % 32 = _
      omega
    · change image32 img 14 / 1048576 % 32 = _
      omega
    · change image32 img 14 / 2 ^ 25 % 8 = _
      omega
    · change image32 img 14 / 2 ^ 28 % 4 = _
      omega
    · have interval : image32 img 14 / 2 ^ 30 = octetAt img 17 / 64 := by omega
      rw [← interval]
      exact intoRange_nearest (by omega) _
    · rw [decodeImage_line]
      have high := o (34 + l.val)
      have parity := o (98 + l.val)
      refine ⟨image16_testBit img 3 l, intoRange_nearest (by omega) _, ?_, ?_, intoRange_nearest (by omega) _,
        intoRange_nearest (by omega) _, rfl, rfl, rfl, intoRange_nearest (by omega) _, bit _ 6 (by omega), ?_,
        image16_testBit img 114 l, image16_testBit img 116 l⟩
      · change Nearest 153 279 _ (152 + intoRange 1 127 _)
        unfold Nearest intoRange
        split
        · omega
        · split <;> omega
      · refine (bit _ 7 (by omega)).trans (decide_eq_decide.mpr ?_)
        omega
      · refine (bit _ 7 (by omega)).trans (decide_eq_decide.mpr ?_)
        omega

/-! ### The hand-over (R176) -/

/-- A line at the hand-over, under its configuration and with the clock's level that stands. -/
def Line.started (u : LineSetup) (clock : Bool) (x : Line) : Line :=
  { x with
    lrx := { x.lrx with
      align := if u.enable then .search else .off, edgeWatch := 0, searchBits := 0, clockSeen := clock }
    mon := { x.mon with wtr := 16 * u.wtrCode } }

theorem startLine_eq (s : State) (l : LineNo) : startLine s l
    = s.setLine l ((s.line l).started (s.lineSetup l) (s.pins.lineClock.getLsbD l.val)) := by
  unfold startLine
  dsimp only
  rw [State.onMon, State.onLrx_line, State.onLrx, State.setLine_setLine]
  rfl

theorem exec_handOverIntoStart {s : State} (out : s.inReset = false) (reading : s.loader.phase = .reading) (octets : List Octet) :
    exec (.handOverIntoStart octets) s = .next (if ((s.loader.buffer ++ octets).take 118).length = 118
      then handOverStart ((s.loader.buffer ++ octets).take 118) s
      else { s with loader := { s.loader with buffer := (s.loader.buffer ++ octets).take 118 } }) := by
  change execHandOverIntoStart octets s = _
  unfold execHandOverIntoStart
  rw [if_pos (by simp [out, reading])]
  rfl

/-- The part as the lines' start finds it at the hand-over. -/
def State.imageTaken (s : State) (img : List Octet) : State :=
  { s with
    setup := configured img, loader := { s.loader with phase := .done, buffer := img, bits := [] }
    flags := { s.flags with config := s.flags.config || !signatureGood img } }

/-- The lines' start at the hand-over of an image. -/
theorem startLines_spec (s : State) (img : List Octet) :
    (∀ l, ((s.imageTaken img).forLines allLines startLine).line l
        = (s.line l).started ((configured img).lines.get l) (s.pins.lineClock.getLsbD l.val))
      ∧ { (s.imageTaken img).forLines allLines startLine with lines := s.lines } = s.imageTaken img := by
  have change : ∀ (t : State) (l : LineNo), t.setup = configured img ∧ t.pins = s.pins →
      startLine t l = t.setLine l ((t.line l).started ((configured img).lines.get l) (s.pins.lineClock.getLsbD l.val)) :=
    fun t l ⟨setup, pins⟩ => by rw [startLine_eq, State.lineSetup, setup, pins]
  have keeps : ∀ (t : State) (l : LineNo) (x : Line), t.setup = configured img ∧ t.pins = s.pins →
      (t.setLine l x).setup = configured img ∧ (t.setLine l x).pins = s.pins := fun _ _ _ h => h
  exact ⟨fun l => (forLines_line_of (s := s.imageTaken img) change keeps allLines_nodup ⟨rfl, rfl⟩ l).trans (if_pos (mem_allLines l)),
    forLines_frame_of (s := s.imageTaken img) change keeps allLines ⟨rfl, rfl⟩⟩

/-- Settles O6. -/
theorem handOverEntersStart : Obligations.HandOverEntersStart := by
  intro octets s out reading
  have taken := exec_handOverIntoStart out reading octets
  refine ⟨fun whole => ?_, fun part => ?_⟩
  · rw [List.take_of_length_le (by omega), if_pos whole] at taken
    generalize s.loader.buffer ++ octets = img at *
    obtain ⟨line, frame⟩ := startLines_spec s img
    have handed : handOverStart img s
        = enterStart (((s.imageTaken img).forLines allLines startLine).onBus fun b => b.started
          ((s.imageTaken img).forLines allLines startLine).pins.busLevel) := rfl
    rw [handed] at taken
    generalize (s.imageTaken img).forLines allLines startLine = u at *
    have setup : u.setup = configured img := (congrArg State.setup frame :)
    refine ⟨_, taken, setup, (congrArg State.loader frame :), (congrArg State.flags frame :), ?_, ?_, fun l => ?_, ?_, ?_⟩
    · exact (congrArg (fun t : State => (enterStart t).floor) frame :)
    · exact (congrArg (fun t : State => (enterStart t).steer) frame :)
    · have line' : (enterStart (u.onBus fun b => b.started u.pins.busLevel)).line l
          = (s.line l).started (u.setup.lines.get l) (s.pins.lineClock.getLsbD l.val) := by
        rw [setup]
        exact line l
      exact line'
    · have level : u.pins.busLevel = s.pins.busLevel := (congrArg (fun t : State => t.pins.busLevel) frame :)
      rw [level]
      exact (congrArg (fun t : State => t.bus.started s.pins.busLevel) frame :)
    · exact (congrArg (fun t : State => { t with
        setup := s.setup, loader := s.loader, flags := s.flags, floor := s.floor, steer := s.steer, bus := s.bus }) frame :)
  · rw [List.take_of_length_le (by omega), if_neg (by omega)] at taken
    exact taken

/-! ### The soft restart (R177) -/

/-- A line restarted (R19, R40, R62), with a frame of traffic in hand squelched. -/
def Line.restarted (u : LineSetup) (x : Line) : Line :=
  { x with
    lrx := x.lrx.restart, store := x.store.restart, mon := x.mon.restart u
    framer := { x.framer with squelched := x.framer.squelched || (x.framer.inHand.map InHand.traffic).getD false } }

theorem restartLine_eq (s : State) (l : LineNo) : restartLine s l = s.setLine l ((s.line l).restarted (s.lineSetup l)) := by
  have squelched : ∀ f : Framer, (match f.inHand with
      | some h => if h.traffic then { f with squelched := true } else f
      | none => f) = { f with squelched := f.squelched || (f.inHand.map InHand.traffic).getD false } := fun f => by
    obtain ⟨inHand, _, _, _, _, _, _, _, _⟩ := f
    cases inHand with
    | none => simp
    | some h => cases traffic : h.traffic <;> simp [traffic]
  unfold restartLine squelch State.onFramer State.onMon State.onStore State.onLrx
  simp only [State.line_setLine, if_true, State.setLine_setLine]
  exact congrArg (fun f : Framer => s.setLine l { (s.line l).restarted (s.lineSetup l) with framer := f })
    (squelched (s.line l).framer)

/-- The lines' part of a soft restart. -/
theorem restartLines_spec (s : State) :
    (∀ l, (s.forLines s.enabledLines restartLine).line l
        = if s.enabled l = true then (s.line l).restarted (s.lineSetup l) else s.line l)
      ∧ { s.forLines s.enabledLines restartLine with lines := s.lines } = s := by
  have change : ∀ (t : State) (l : LineNo), t.setup = s.setup →
      restartLine t l = t.setLine l ((t.line l).restarted (s.lineSetup l)) :=
    fun t l setup => by rw [restartLine_eq, State.lineSetup, setup, State.lineSetup]
  have keeps : ∀ (t : State) (l : LineNo) (x : Line), t.setup = s.setup → (t.setLine l x).setup = s.setup := fun _ _ _ h => h
  refine ⟨fun l => (forLines_line_of change keeps (enabledLines_nodup s) rfl l).trans ?_,
    forLines_frame_of change keeps s.enabledLines rfl⟩
  simp only [mem_enabledLines]

theorem keepSending_of_sending {b : Bus} {f : Flight} (flight : b.flight = some f) (sending : f.phase = .sending) (k : Slot)
    (x : Option Bulletin) : keepSending b k x = if f.slot = k then x else none := by
  simp [keepSending, Bus.sending, Bus.flying, flight, sending]

theorem Bus.sending_iff (b : Bus) : b.sending = true ↔ b.flight.map Flight.phase = some .sending := by
  rw [Bus.sending_eq]
  exact decide_eq_true_iff

theorem keepSending_of_not_sending {b : Bus} (idle : b.flight.map Flight.phase ≠ some .sending) (k : Slot)
    (x : Option Bulletin) : keepSending b k x = none := by
  unfold keepSending
  rw [if_neg]
  simp only [Bool.and_eq_true, b.sending_iff]
  exact fun h => idle h.1

/-- The RESTART that is served, and what stands behind it. -/
theorem exec_restart {behind : List RxEntry} {waiting : Nat} {s : State} (served : RestartServed behind waiting s) :
    exec .restart s = .next (softRestart behind waiting s) := by
  obtain ⟨running, idle, next⟩ := served
  have serves : s.serves = true := by simp [State.serves, running, idle]
  change execRestart s = _
  unfold execRestart
  rcases next with ⟨none, rfl, q, kind, queue⟩ | ⟨waits, queue⟩
  · have head : headOfKind s 7 = some q := headOfKind_of_headServed ⟨running, idle, none, by rw [queue]; rfl, kind⟩
    rw [if_neg (by simp [none]), head, queue]
    rfl
  · rw [if_pos (by simp [serves, waits]), waits, queue]
    rfl

/-- Settles O54: the lines by `restartLines_spec`, the slots by what is in SENDING. -/
theorem restartReturnsToStart : Obligations.RestartReturnsToStart := by
  intro behind waiting s served
  have taken := exec_restart served
  obtain ⟨line, frame⟩ := restartLines_spec s
  have restarted : softRestart behind waiting s = { restartFloor { s.forLines s.enabledLines restartLine with selected := none } with
      bus := (s.forLines s.enabledLines restartLine).bus.restarted, queue := []
      restartsWaiting := waiting + behind.countP RxEntry.restarts, peers := Vector.replicate 12 {}, duplicate := false } := rfl
  rw [restarted] at taken
  generalize s.forLines s.enabledLines restartLine = u at *
  have bus : u.bus = s.bus := (congrArg State.bus frame :)
  rw [bus] at taken
  refine ⟨_, taken, fun l enabled => ?line, fun l disabled => ?off, rfl, (congrArg (fun t : State => (restartFloor t).floor) frame :),
    (congrArg (fun t : State => (restartFloor t).steer) frame :), rfl, fun f flight sending => ?sending, fun quiet => ?quiet, rfl,
    ?waiting, fun p => ?peers, rfl, ?rest⟩
  case line =>
    have at' : u.line l = (s.line l).restarted (s.lineSetup l) := (line l).trans (if_pos enabled)
    have fresh : (u.line l).store.fresh = Vector.replicate 8 false := (congrArg (fun x : Line => x.store.fresh) at' :)
    refine ⟨(congrArg Line.lrx at' :), fun k => ?_, ?_, (congrArg Line.framer at' :), (congrArg Line.mon at' :)⟩
    · exact (congrArg (fun v : Vector Bool 8 => v.get k) fresh :).trans (Vector.getElem_replicate ..)
    · exact (congrArg Line.store at' :).trans (congrArg (fun v => { (s.line l).store with
        fresh := v, request := none, repeatPending := false, deletePending := false, excess := false }) fresh).symm
  case off =>
    exact (line l).trans (if_neg (by simp [disabled]))
  case sending =>
    have flying : s.bus.sending = true := s.bus.sending_iff.mpr (by rw [flight, Option.map_some, sending])
    refine ⟨?_, keepSending_of_sending flight sending .., keepSending_of_sending flight sending ..,
      keepSending_of_sending flight sending .., ?_⟩
    · exact (congrArg (Option.map _) ((flightSending_of_sending flying).trans flight) :)
    · change (if (s.bus.sending && s.bus.flying .report) = true then s.bus.reports.take 1 else []) = _
      simp [flying, Bus.flying, flight]
  case quiet =>
    have idle : s.bus.sending = false := Bool.eq_false_iff.mpr fun h => quiet (s.bus.sending_iff.mp h)
    refine ⟨?_, keepSending_of_not_sending quiet .., keepSending_of_not_sending quiet .., keepSending_of_not_sending quiet .., ?_⟩
    · exact (congrArg (Option.map _) (flightSending_of_not_sending idle) :)
    · exact if_neg (by simp [idle])
  case waiting =>
    exact congrArg (waiting + ·) (List.countP_eq_length_filter ..)
  case peers => exact Vector.getElem_replicate ..
  case rest =>
    exact (congrArg (fun t : State => { t with
      selected := s.selected, floor := s.floor, steer := s.steer, bus := s.bus, queue := s.queue
      restartsWaiting := s.restartsWaiting, peers := s.peers, duplicate := s.duplicate }) frame :)

end Sys2Proof.Machine
end

section
/-! A period of the fine clock at the lines and at the floor clock, in an idle step (01; 02, section 2.6; 04, section 4.2). -/

namespace Sys2Proof.Machine

/-! ### A pass over lines, each changed by what stands of it and outside the lines -/

/-- A pass whose step at a line touches that line alone, and depends on no other line, does to each line what a single step does. -/
theorem forLines_line_local {f : State → LineNo → State} {s : State} (only : ∀ t l, OnlyLine l t (f t l))
    (own : ∀ t l, t.line l = s.line l → { t with lines := s.lines } = s → (f t l).line l = (f s l).line l)
    {ls : List LineNo} (nodup : ls.Nodup) {t : State} (frame : { t with lines := s.lines } = s)
    (same : ∀ m ∈ ls, t.line m = s.line m) (m : LineNo) :
    (t.forLines ls f).line m = if m ∈ ls then (f s m).line m else t.line m := by
  induction ls generalizing t with
  | nil => simp [State.forLines]
  | cons l ls ih =>
    obtain ⟨fresh, nodup⟩ := List.nodup_cons.mp nodup
    have first := only t l
    have frame' : { f t l with lines := s.lines } = s := (congrArg (fun u : State => { u with lines := s.lines }) first.2 :).trans frame
    have same' : ∀ k ∈ ls, (f t l).line k = s.line k := fun k member =>
      (first.1 k fun e => fresh (e ▸ member)).trans (same k (List.mem_cons_of_mem l member))
    change ((f t l).forLines ls f).line m = _
    rw [ih nodup frame' same']
    by_cases later : m ∈ ls
    · simp [later]
    · rw [if_neg later]
      by_cases now : m = l
      · subst now
        rw [if_pos (List.mem_cons_self ..)]
        exact own t m (same m (List.mem_cons_self ..)) frame
      · rw [if_neg (by simp [now, later])]
        exact first.1 m now

/-! ### The framers (R30 to R36) -/

theorem frameBit_frame (l : LineNo) (s : State) : OnlyLine l s (frameBit l s) := by
  unfold frameBit
  dsimp only
  split
  · exact .refl l s
  · split
    · exact .refl l s
    · exact onlyLine_onFramer s l _

/-- What a framer sends is read from its line, the floor clock, the announced grade and the configuration. -/
theorem frameBit_own {s t : State} {l : LineNo} (line : t.line l = s.line l) (frame : { t with lines := s.lines } = s) :
    (frameBit l t).line l = (frameBit l s).line l := by
  have floor : t.floor = s.floor := (congrArg State.floor frame :)
  have steer : t.steer = s.steer := (congrArg State.steer frame :)
  have enabled : t.enabled l = s.enabled l := (congrArg (fun u : State => u.enabled l) frame :)
  have octet : ∀ k, outgoingOctet t l k = outgoingOctet s l k := fun k => by
    unfold outgoingOctet outgoingService
    rw [line, floor, steer, enabled]
  unfold frameBit
  rw [line, floor]
  dsimp only
  split
  · exact line
  · split
    · exact line
    · rw [State.onFramer_line, State.onFramer_line, line, octet]

/-- Each framer after the framers' part of a period. -/
theorem tickFramers_line {s : State} (running : s.running = true) (l : LineNo) :
    (tickFramers s).line l = (frameBit l s).line l := by
  unfold tickFramers
  rw [if_pos running, forLines_line_local (fun t l => frameBit_frame l t) (fun t l => frameBit_own) allLines_nodup rfl fun _ _ => rfl,
    if_pos (mem_allLines l)]

/-! ### The lines in an idle step -/

theorem tickFloor_line (s : State) (l : LineNo) : (tickFloor s).line l = s.line l := by
  obtain ⟨e, -, h⟩ | ⟨-, -, h⟩ | ⟨-, -, -, h⟩ | ⟨-, -, -, h⟩ := tickFloor_cases s <;> rw [h] <;> rfl

/-- The floor clock's part of a period does not read the lines. -/
theorem tickFloor_withLines (s : State) (x : Vector Line 16) :
    tickFloor { s with lines := x } = { tickFloor s with lines := x } := by
  unfold tickFloor
  dsimp only
  split
  · rfl
  · split
    · rfl
    · split <;> rfl

theorem tickService_lines (s : State) : (tickService s).lines = s.lines := by
  cases h : s.service with
  | none => rw [tickService_of_none s h]
  | some b => rw [tickService_of_some s b h]

/-- The bus interface's part of a period touches it and the list of what is due alone, which a command for a line does not join. -/
theorem tickBus_spec (s : State) : { tickBus s with bus := s.bus, due := s.due } = s
    ∧ ∀ c, c.line?.isSome = true ∨ c = .floorFrameBoundary → (c ∈ (tickBus s).due ↔ c ∈ s.due) := by
  by_cases on : s.onBusNow = true
  · rw [tickBus_eq on]
    refine ⟨rfl, fun c other => ?_⟩
    have notBus : ∀ c', c = c' → c'.line? = none → c' ≠ .floorFrameBoundary → False := by
      rintro c' rfl line boundary
      rcases other with some | rfl
      · rw [line] at some
        cases some
      · exact boundary rfl
    have received : c ∉ s.received := fun m => by
      rcases mem_received m with ⟨xs, h⟩ | h | h <;> exact notBus _ h rfl nofun
    have sent : c ∉ s.sendingEvents := fun m => by
      rcases mem_sendingEvents m with h | h <;> exact notBus _ h rfl nofun
    have ended : c ∉ s.carrierCounted.bitTimeEvents s.pins.driveSense := fun m => by
      rcases bitTimeEvents_only m with h | h | h | h <;> exact notBus _ h rfl nofun
    simp only [List.mem_append, received, sent, false_or]
    split <;> simp [ended]
  · have off : tickBus s = s := by simp [tickBus, on]
    rw [off]
    exact ⟨rfl, fun _ _ => Iff.rfl⟩

/-- An idle step of a running part at the lines and the floor clock: each line's input is taken behind its framer's bit. -/
theorem Idling.step_lines {s : State} (h : Idling s) (running : s.running = true) :
    ∃ t, step s = .next t
      ∧ (∀ l, t.line l = ((frameBit l s).line l).ticked s.pins l)
      ∧ t.floor = (tickFloor s).floor
      ∧ (∀ l c, c.line? = some l → (c ∈ t.due ↔ c ∈ ((frameBit l s).line l).events s.pins l))
      ∧ (.floorFrameBoundary ∈ t.due ↔ .floorFrameBoundary ∈ (tickFloor s).due) := by
  have framers : tickFramers s = { s with lines := (tickFramers s).lines } :=
    (congrArg (fun u : State => { u with lines := (tickFramers s).lines }) (tickFramers_frame s) :)
  have floor : tickFloor (tickFramers s) = { tickFloor s with lines := (tickFramers s).lines } := by
    rw [framers, tickFloor_withLines]
  obtain ⟨u, passed, line, floor', pins, due⟩ : ∃ u : State, tickFloor (tickFramers s) = u
      ∧ (∀ l, u.line l = (frameBit l s).line l) ∧ u.floor = (tickFloor s).floor ∧ u.pins = s.pins ∧ u.due = (tickFloor s).due :=
    ⟨_, rfl, fun l => by rw [tickFloor_line, tickFramers_line running],
      (congrArg State.floor floor :), by rw [tickFloor_pins, framers], (congrArg State.due floor :)⟩
  have taken : s.inputsTaken = u.forLines allLines tickLine := by rw [State.inputsTaken, passed]
  obtain ⟨lines, events⟩ := forLines_tickLine allLines allLines_nodup u
  rw [← taken] at lines events
  obtain ⟨bus, member⟩ := tickBus_spec s.inputsTaken
  refine ⟨_, h.step_eq, ?_⟩
  rw [h.tick_running running]
  have lineOf : ∀ l, (tickService (tickBus s.inputsTaken)).line l = s.inputsTaken.line l := fun l =>
    congrArg (fun v : Vector Line 16 => v.get l) ((tickService_lines _).trans (congrArg State.lines bus :))
  refine ⟨fun l => ?_, ?_, fun l c own => ?_, ?_⟩
  · rw [lineOf, lines, if_pos (mem_allLines l), line, pins]
  · rw [tickService_floor]
    refine (congrArg State.floor bus :).trans ?_
    rw [taken, ← floor']
    exact (congrArg State.floor (forLines_tickLine_frame allLines u) :)
  · rw [mem_tickService_due (fun e : c = .reportSubmission => by rw [e] at own; cases own), member c (.inl (by rw [own]; rfl)), events, List.mem_append, due]
    have notFloor : c ∉ (tickFloor s).due := fun m => by
      rcases tickFloor_due s with e | e <;> rw [e, h.2.1] at m
      · cases m
      · obtain rfl := List.mem_singleton.mp m
        cases own
    simp only [notFloor, false_or, List.mem_flatMap, line, pins]
    constructor
    · rintro ⟨k, -, m⟩
      obtain rfl : k = l := Option.some.inj ((Line.events_line _ k _ c m).symm.trans own)
      exact m
    · exact fun m => ⟨l, mem_allLines l, m⟩
  · rw [mem_tickService_due (c := .floorFrameBoundary) nofun, member _ (.inr rfl), events, List.mem_append, due]
    refine or_iff_left fun m => ?_
    obtain ⟨k, -, m⟩ := List.mem_flatMap.mp m
    cases Line.events_line _ k _ _ m

end Sys2Proof.Machine
end

section
/-! Stamps, line octets, epoch closes and the outgoing bits (01, sections 1.3, 1.5 and 1.6; 02, sections 2.2, 2.6 and 2.7). -/

namespace Sys2Proof.Machine

/-! ### The outgoing bits (R30 to R36) -/

theorem bitAt_eq_some {time b : Nat} : bitAt time = some b ↔ b < 288 ∧ time = b * 1024 / 9 := by
  unfold bitAt
  dsimp only
  constructor
  · intro h
    split at h
    · obtain rfl := Option.some.inj h
      omega
    · cases h
  · rintro ⟨small, rfl⟩
    have place : (9 * (b * 1024 / 9) + 1023) / 1024 = b := by omega
    rw [place, if_pos ⟨small, rfl⟩]

theorem bitAt_eq_none {time : Nat} (h : ∀ b < 288, time ≠ b * 1024 / 9) : bitAt time = none := by
  cases e : bitAt time with
  | none => rfl
  | some b =>
    obtain ⟨small, place⟩ := bitAt_eq_some.mp e
    exact absurd place (h b small)

/-- The octet that goes out at a bit's place: one begun is completed as it was (R30). -/
def octetNow (s : State) (l : LineNo) (k : Nat) : Octet :=
  if (s.line l).framer.octetIndex = some k then (s.line l).framer.octet else outgoingOctet s l k

theorem frameBit_of_place {s : State} {l : LineNo} {b : Nat} (frame : (s.line l).framer.inHand.isSome = true)
    (place : bitAt s.floor.time = some b) :
    frameBit l s = s.onFramer l fun f => f.sendBit (b / 8) (octetNow s l (b / 8)) (b % 8) := by
  unfold frameBit
  dsimp only
  rw [if_neg (by rw [Option.isNone_iff_eq_none]; exact Option.isSome_iff_ne_none.mp frame), place]
  rfl

theorem frameBit_of_none {s : State} {l : LineNo} (h : (s.line l).framer.inHand = none ∨ bitAt s.floor.time = none) :
    frameBit l s = s := by
  unfold frameBit
  dsimp only
  rcases h with h | h
  · rw [if_pos (by rw [h]; rfl)]
  · split
    · rfl
    · rw [h]

/-- What is built of an octet with a frame in hand (R30, R32, R33, R36). -/
theorem outgoingOctet_inHand {s : State} {l : LineNo} {h : InHand} (inHand : (s.line l).framer.inHand = some h) (k : Nat) :
    outgoingOctet s l k = if k = 0 then 0x6B#8
      else if k = 1 then serviceOctet s.steer.announced (decide ((s.line l).framer.reason = .line))
        (s.enabled l && (s.line l).framer.parity.getD false) (s.line l).framer.count.val
      else if h.traffic = true ∧ (s.line l).framer.squelched = false ∧ s.floor.cut = false then
        (s.line l).store.cells.get (Fin.ofNat 288 (36 * h.cell.val + k))
      else 0xFF#8 := by
  unfold outgoingOctet outgoingService
  dsimp only
  rw [inHand]
  dsimp only
  simp only [Bool.and_eq_true, Bool.not_eq_true', and_assoc]
  rfl

theorem tickLoader_lines (s : State) : (tickLoader s).lines = s.lines := by
  unfold tickLoader
  dsimp only
  split
  · rfl
  · split <;> split <;> rfl

/-- Settles O23: a bit's place by `bitAt_eq_some`, the clockwork by the idle step's lines. -/
theorem framerSendsBitInPlace : Obligations.FramerSendsBitInPlace := by
  intro l s
  refine ⟨fun b h small place inHand => ?place, fun nothing => ?nothing, fun idling running => ?running, fun idling loading => ?loading⟩
  case place =>
    have sent := frameBit_of_place (by rw [inHand]; rfl) (bitAt_eq_some.mpr ⟨small, place⟩)
    have line : (frameBit l s).line l = { s.line l with
        framer := (s.line l).framer.sendBit (b / 8) (octetNow s l (b / 8)) (b % 8) } := by rw [sent, State.onFramer_line]
    refine ⟨octetNow s l (b / 8), ?_, line, frameBit_frame l s, ?_⟩
    · rw [octetNow, outgoingOctet_inHand inHand]
    · rw [State.output, line]
      rfl
  case nothing =>
    have same := frameBit_of_none (s := s) (l := l) (nothing.imp_right bitAt_eq_none)
    exact ⟨same, by rw [State.output, same]⟩
  case running =>
    obtain ⟨t, e, lines, -⟩ := idling.step_lines running
    exact ⟨t, e, (congrArg Line.framer (lines l) :)⟩
  case loading =>
    have state : s.floor.state = .loading := by simpa [State.running] using loading
    refine ⟨_, idling.step_loading state, ?_⟩
    exact congrArg Line.framer ((congrArg (fun v : Vector Line 16 => v.get l) (tickLoader_lines _)).trans (tickFloor_line s l))

/-! ### Stamps (R14, R15) -/

/-- A framer's bit is no part of what the line receives. -/
theorem frameBit_receives (l : LineNo) (s : State) :
    ∃ f, (frameBit l s).line l = { s.line l with framer := f } := by
  unfold frameBit
  dsimp only
  split
  · exact ⟨_, rfl⟩
  · split
    · exact ⟨_, rfl⟩
    · exact ⟨_, State.onFramer_line s l _⟩

/-- A line's input as it is read from its receiver alone. -/
theorem Idling.step_receiver {s : State} (h : Idling s) (running : s.running = true) :
    ∃ t, step s = .next t ∧ (∀ l, (t.line l).lrx = ((s.line l).ticked s.pins l).lrx)
      ∧ t.floor = (tickFloor s).floor ∧ ∀ l c, c.line? = some l → (c ∈ t.due ↔ c ∈ (s.line l).events s.pins l) := by
  obtain ⟨t, e, lines, floor, due, -⟩ := h.step_lines running
  refine ⟨t, e, fun l => ?_, floor, fun l c own => ?_⟩
  · obtain ⟨f, line⟩ := frameBit_receives l s
    rw [lines, line]
    rfl
  · obtain ⟨f, line⟩ := frameBit_receives l s
    rw [due l c own, line]
    rfl

/-- The input of a period leaves the accumulation of stamps. -/
theorem ticked_acc (p : Pins) (l : LineNo) (x : Line) : (x.ticked p l).lrx.acc = x.lrx.acc := by
  unfold Line.ticked Lrx.edged Lrx.watched
  dsimp only
  split <;> split <;> rfl

theorem mem_alignedEvents_stamp {l : LineNo} {k : Nat} {bits : List Bool} :
    .frameStartStamp l ∈ alignedEvents l k bits ↔ 272 ≤ k ∧ (k - 272) % 288 = 0 := by
  unfold alignedEvents
  split
  · next early => exact iff_of_false (by simp) (by omega)
  · next late =>
    have other : Instr.frameStartStamp l ∉ (if bits.length = 8 then
          (if (k - 272) % 288 = 7 then [.alignmentWordCheck l (bitsOctet bits)] else [])
            ++ (if (k - 272) % 288 = 15 then [.serviceOctetDecode l (bitsOctet bits)] else [])
            ++ [Instr.lineOctetWrite l (bitsOctet bits)]
        else []) := by
      split
      · split <;> split <;> simp
      · simp
    rw [List.mem_append, or_iff_left other]
    split
    · next first => exact iff_of_true (by simp) ⟨by omega, first⟩
    · next later => exact iff_of_false (by simp) fun h => later h.2

theorem mem_events_stamp {p : Pins} {l : LineNo} {x : Line} :
    .frameStartStamp l ∈ x.events p l ↔ (p.lineClock.getLsbD l.val && !x.lrx.clockSeen) = true ∧ x.lrx.align = .aligned
      ∧ 272 ≤ x.lrx.rxCount ∧ (x.lrx.rxCount - 272) % 288 = 0 := by
  unfold Line.events Lrx.edgeEvents Lrx.watchEvents
  split
  · next edge =>
    rw [and_iff_right edge]
    split
    · next align => exact iff_of_false (by simp) (by simp [align])
    · next align => exact iff_of_false (by simp) (by simp [align])
    · next align => exact iff_of_false (by split <;> simp) (by simp [align])
    · next align => exact iff_of_false (by simp) (by simp [align])
    · next align => rw [mem_alignedEvents_stamp, and_iff_right align]
  · next still => exact iff_of_false (by split <;> simp) fun h => still h.1

/-- Settles O13: the stamp by its definition, the clockwork by the idle step's lines. -/
theorem frameStartIsStamped : Obligations.FrameStartIsStamped := by
  intro l s
  refine ⟨fun running aligned => ?stamp, fun idling running normal noShift small => ?clock⟩
  case stamp =>
    have taken : exec (.frameStartStamp l) s = .next (s.onLrx l fun r => r.stampStart s.floor.time) :=
      congrArg Host.Outcome.next (if_pos (by simp [running, State.isAligned, aligned]))
    refine ⟨_, taken, fun first => ?_, fun s0 later => ?_, ?_, onlyLine_onLrx s l _⟩
    · rw [State.onLrx_line]
      simp [Lrx.stampStart, Accum.stamp, first]
    · rw [State.onLrx_line]
      simp [Lrx.stampStart, Accum.stamp, later]
    · rw [State.onLrx_line]
      rfl
  case clock =>
    obtain ⟨t, e, receiver, floor, due⟩ := idling.step_receiver running
    refine ⟨t, e, ?_, by rw [receiver, ticked_acc], ?_⟩
    · rw [floor]
      have left : s.floor.left = 32768 - s.floor.time := by rw [Floor.left, normal]
      obtain ⟨_, some, -⟩ | ⟨-, last, h⟩ | ⟨-, more, top, -⟩ | ⟨-, more, -, h⟩ := tickFloor_cases s
      · exact absurd (noShift.symm.trans some) nofun
      · rw [h]
        dsimp only
        omega
      · omega
      · rw [h]
        dsimp only
        omega
    · exact (due l _ rfl).trans mem_events_stamp

/-! ### Line octets (R12, R20, R21) -/

theorem cells_set_get (v : Vector Octet 288) (w k : Fin 288) (o : Octet) :
    (v.set w o).get k = if k = w then o else v.get k := by
  by_cases e : k = w
  · subst e
    rw [if_pos rfl]
    exact Vector.getElem_set_self ..
  · rw [if_neg e]
    exact Vector.getElem_set_ne w.isLt k.isLt fun same => e (Fin.ext same.symm)

theorem Store.write_fresh (t : Store) (o : Octet) (c : Fin 8) :
    (t.write o).fresh.get c = (t.fresh.get c || decide (36 * c.val = t.w.val)) := by
  unfold Store.write
  dsimp only
  split
  · next start =>
    by_cases e : c = cellOf t.w
    · subst e
      have here : 36 * (cellOf t.w).val = t.w.val := by
        change 36 * (t.w.val / 36) = t.w.val
        omega
      rw [decide_eq_true here, Bool.or_true]
      exact Vector.getElem_set_self ..
    · have other : ¬ 36 * c.val = t.w.val := fun same => e (Fin.ext (by change c.val = t.w.val / 36; omega))
      rw [decide_eq_false other, Bool.or_false]
      exact Vector.getElem_set_ne (cellOf t.w).isLt c.isLt fun same => e (Fin.ext same.symm)
  · next inside =>
    have other : ¬ 36 * c.val = t.w.val := by omega
    rw [decide_eq_false other, Bool.or_false]

/-- Settles O16, by the two parts of a handed octet. -/
theorem lineOctetIsWritten : Obligations.LineOctetIsWritten := by
  intro l o s running aligned
  have taken : exec (.lineOctetWrite l o) s
      = .next ((s.onLrx l fun r => r.traffic ((s.line l).store.w.val % 36) o).onStore l fun t => t.write o) :=
    congrArg Host.Outcome.next (if_pos (by simp [running, State.isAligned, aligned]))
  have line : ((s.onLrx l fun r => r.traffic ((s.line l).store.w.val % 36) o).onStore l fun t => t.write o).line l
      = { s.line l with
          lrx := (s.line l).lrx.traffic ((s.line l).store.w.val % 36) o, store := (s.line l).store.write o } := by
    rw [State.onStore_line, State.onLrx_line]
  refine ⟨_, taken, ?_⟩
  have only := (onlyLine_onLrx s l fun r => r.traffic ((s.line l).store.w.val % 36) o).trans
    (onlyLine_onStore _ l fun t => t.write o)
  dsimp only
  rw [line]
  refine ⟨fun k => cells_set_get _ _ k o, ?_, fun c => Store.write_fresh _ o c, rfl, rfl, rfl, rfl, rfl, rfl, only⟩
  change ((s.line l).store.w + 1).val = _
  rw [Fin.val_add]
  rfl

/-! ### The epoch close (R13, R15 to R17) -/

theorem floorMod_eq_iff (x : Int) (p : Nat) : floorMod x = p ↔ (p : Int) = x % 32768 := by
  unfold floorMod
  omega

/-- The line phase, where the accumulation has a stamp (R16). -/
theorem Accum.phase_eq_some (a : Accum) (p : Nat) : a.phase = some p ↔ 0 < a.count
    ∧ ∃ s0, a.s0 = some s0 ∧ (p : Int) = (s0 + roundDiv a.sum a.count) % 32768 := by
  unfold Accum.phase
  cases first : a.s0 with
  | none => simp
  | some s0 =>
    by_cases none : a.count = 0
    · simp [none]
    · simp [none, floorMod_eq_iff, Nat.pos_of_ne_zero none]

theorem Lrx.phase_eq_some (r : Lrx) (p : Nat) : r.phase = some p ↔ r.alignedThroughout = true ∧ r.jumpFlag = false ∧ 0 < r.acc.count
    ∧ ∃ s0, r.acc.s0 = some s0 ∧ (p : Int) = (s0 + roundDiv r.acc.sum r.acc.count) % 32768 := by
  unfold Lrx.phase
  cases r.alignedThroughout <;> cases r.jumpFlag <;> simp [Accum.phase_eq_some]

theorem drift_eq_some (p q : Option Nat) (d : Int) :
    drift p q = some d ↔ ∃ a b : Nat, p = some a ∧ q = some b ∧ d = wrap ((a : Int) - b) := by
  cases p <;> cases q <;> simp [drift, eq_comm]

/-- Settles O17, by what is handed and what opens. -/
theorem receiverClosesEpoch : Obligations.ReceiverClosesEpoch := by
  intro l s running enabled
  have taken : exec (.receiverEpochClose l) s
      = .next (((s.took (.receiverEpochClose l)).onMon l fun m => m.handed (s.line l).lrx).onLrx l Lrx.closeEpoch) :=
    congrArg Host.Outcome.next (if_pos (by simp [running, enabled]))
  have line : (((s.took (.receiverEpochClose l)).onMon l fun m => m.handed (s.line l).lrx).onLrx l Lrx.closeEpoch).line l
      = { s.line l with lrx := (s.line l).lrx.closeEpoch, mon := (s.line l).mon.handed (s.line l).lrx } := by
    rw [State.onLrx_line, State.onMon_line]
    rfl
  have only := (onlyLine_onMon (s.took (.receiverEpochClose l)) l fun m => m.handed (s.line l).lrx).trans
    (onlyLine_onLrx _ l Lrx.closeEpoch)
  refine ⟨_, taken, ?_⟩
  dsimp only
  rw [line]
  refine ⟨fun p => Lrx.phase_eq_some _ p, fun d => drift_eq_some _ _ d, rfl, rfl, ?_, rfl, rfl, rfl, only⟩
  have throughout : ((s.line l).lrx.align == .aligned) = decide ((s.line l).lrx.align = .aligned) := by
    cases (s.line l).lrx.align <;> rfl
  exact congrArg (fun b => { (s.line l).lrx.closeEpoch with alignedThroughout := b }) throughout

end Sys2Proof.Machine
end

section
/-! FLOOR_FRAME_BOUNDARY: counts, residue, and what falls due (04, section 4.2). -/

namespace Sys2Proof.Machine

/-! ### The floor clock at a boundary (R64, R65) -/

theorem Floor.nextFrame_frame (f : Floor) (small : f.frame < 64) : f.nextFrame.frame = if f.frame = 63 then 0 else f.frame + 1 := by
  change (f.frame + 1) % 64 = _
  split <;> omega

theorem Floor.boundary_frame_eq (f : Floor) : f.boundary.frame = f.nextFrame.frame := by
  unfold Floor.boundary
  dsimp only
  split
  · rfl
  · rw [Floor.addFreq_frame]

/-- At a boundary the counts advance, the jump's cut and shift end, and the rest of the clock is the residue and the length of the
frame begun. -/
theorem Floor.boundary_eq (f : Floor) : f.boundary = { f with
    time := 0, frame := f.nextFrame.frame, epoch := f.nextFrame.epoch, residue := f.boundary.residue, kind := f.boundary.kind
    secondRead := false, shift := none, cut := false, listenEnded := false } := by
  unfold Floor.boundary
  dsimp only
  split
  · rfl
  · rw [Floor.addFreq_frame]
    rfl

theorem Floor.boundary_fields (f : Floor) : f.boundary = { f with
    time := 0, frame := f.boundary.frame, epoch := f.boundary.epoch, residue := f.boundary.residue, kind := f.boundary.kind
    secondRead := false, shift := none, cut := false, listenEnded := false } := by
  conv_lhs => rw [f.boundary_eq]
  rw [f.boundary_frame_eq, (congrArg Floor.epoch f.boundary_eq :)]

/-- At an epoch mark outside LOADING the addition of F is left to the epoch work (R65 to R67). -/
theorem Floor.boundary_of_epoch {f : Floor} (mark : f.nextFrame.frame = 0) (runs : f.state ≠ .loading) :
    f.boundary.residue = f.residue ∧ f.boundary.kind = .normal := by
  unfold Floor.boundary
  dsimp only
  rw [if_pos ⟨mark, runs⟩]
  exact ⟨rfl, rfl⟩

theorem Floor.boundary_of_frame {f : Floor} (h : f.nextFrame.frame ≠ 0 ∨ f.state = .loading) :
    f.boundary.residue = f.addFreq.residue ∧ f.boundary.kind = f.addFreq.kind := by
  unfold Floor.boundary
  dsimp only
  rw [if_neg (fun both => h.elim (absurd both.1) both.2)]
  unfold Floor.addFreq
  dsimp only [Floor.nextFrame]
  split
  · exact ⟨rfl, rfl⟩
  · split <;> exact ⟨rfl, rfl⟩

/-- The addition of F to the residue: the frame begun is short, long or normal (R65). -/
theorem Floor.addFreq_spec (f : Floor) :
    (65536 ≤ f.residue + f.freq → f.addFreq.kind = .short ∧ f.addFreq.residue = f.residue + f.freq - 65536)
      ∧ (f.residue + f.freq ≤ -65536 → f.addFreq.kind = .long ∧ f.addFreq.residue = f.residue + f.freq + 65536)
      ∧ ((f.residue + f.freq).natAbs ≤ 65535 → f.addFreq.kind = .normal ∧ f.addFreq.residue = f.residue + f.freq) := by
  unfold Floor.addFreq
  dsimp only
  refine ⟨fun high => ?_, fun low => ?_, fun inside => ?_⟩
  · rw [if_pos high]
    exact ⟨rfl, rfl⟩
  · rw [if_neg (by omega), if_pos low]
    exact ⟨rfl, rfl⟩
  · rw [if_neg (by omega), if_neg (by omega)]
    exact ⟨rfl, rfl⟩

/-! ### What falls due (R64, R115) -/

theorem mem_marksDue {s : State} {c : Instr} : c ∈ marksDue s ↔
    (c = .jabberReexamination ∧ s.floor.frame = 0 ∧ s.bus.jabber = true ∧ 2 ≤ s.bus.marksSinceCut)
      ∨ (s.running = true ∧ ((∃ l, c = .readMark l)
        ∨ (s.floor.frame = 0 ∧ ((∃ l, s.enabled l = true ∧ c = .receiverEpochClose l) ∨ c = .monitorEpochWork ∨ c = .epochMark))
        ∨ (s.floor.frame % s.interval = 0 ∧ c = .bulletinMark))) := by
  have reads : c ∈ allLines.map Instr.readMark ↔ ∃ l, c = .readMark l := by
    simp [mem_allLines, eq_comm]
  have closes : c ∈ s.enabledLines.map Instr.receiverEpochClose ↔ ∃ l, s.enabled l = true ∧ c = .receiverEpochClose l := by
    simp only [List.mem_map, mem_enabledLines]
    exact exists_congr fun l => and_congr_right fun _ => eq_comm
  unfold marksDue
  dsimp only
  rw [List.mem_append]
  refine or_congr ?_ ?_
  · split
    · next h =>
      simp only [Bool.and_eq_true, beq_iff_eq, decide_eq_true_eq, and_assoc] at h
      simp [h]
    · next h =>
      simp only [Bool.and_eq_true, beq_iff_eq, decide_eq_true_eq, and_assoc] at h
      exact iff_of_false (by simp) fun g => h g.2
  · split
    · next running =>
      rw [and_iff_right running, List.mem_append, List.mem_append, reads, or_assoc]
      refine or_congr Iff.rfl (or_congr ?_ ?_)
      · split
        · next mark =>
          rw [List.mem_append, closes, and_iff_right (by simpa using mark)]
          simp
        · next inside => exact iff_of_false (by simp) fun g => inside (by simpa using g.1)
      · split
        · next mark => simp [mark]
        · next inside => exact iff_of_false (by simp) fun g => inside g.1
    · next still => exact iff_of_false (by simp) fun g => still g.1

/-- The part at a boundary, before the marks fall due. -/
def State.boundaryCounted (s : State) : State :=
  { s with
    due := s.due.erase .floorFrameBoundary, floor := s.floor.boundary
    bus := { s.bus with marksSinceCut :=
      if s.floor.boundary.frame = 0 ∧ s.bus.jabber = true then bump 2 s.bus.marksSinceCut else s.bus.marksSinceCut } }

theorem exec_floorFrameBoundary {s : State} (out : s.inReset = false) : exec .floorFrameBoundary s
    = .next { s.boundaryCounted with due := s.boundaryCounted.due ++ marksDue s.boundaryCounted } := by
  change execFloorFrameBoundary s = _
  unfold execFloorFrameBoundary
  dsimp only
  rw [if_neg (by simp [State.took, out])]
  have counted : (if (s.floor.boundary.frame = 0 && s.bus.jabber) = true
      then State.onBus { s.took .floorFrameBoundary with floor := s.floor.boundary } fun b =>
        { b with marksSinceCut := bump 2 b.marksSinceCut }
      else { s.took .floorFrameBoundary with floor := s.floor.boundary }) = s.boundaryCounted := by
    unfold State.boundaryCounted
    by_cases h : s.floor.boundary.frame = 0 ∧ s.bus.jabber = true
    · rw [if_pos (by simpa using h), if_pos h]
      rfl
    · rw [if_neg (by simpa using h), if_neg h]
      rfl
  exact congrArg (fun v : State => Host.Outcome.next { v with due := v.due ++ marksDue v }) counted

/-! ### The clock in the clockwork (R62, R63) -/

theorem Floor.left_of_short {f : Floor} (h : f.kind = .short) : f.left = 32767 - f.time := by simp [Floor.left, h]

theorem Floor.left_of_normal {f : Floor} (h : f.kind = .normal) : f.left = 32768 - f.time := by simp [Floor.left, h]

theorem Floor.left_of_long {f : Floor} (h : f.kind = .long) :
    (f.secondRead = true → f.left = 32768 - f.time) ∧ (f.secondRead = false → f.left = 32769 - f.time) := by
  constructor <;> intro g <;> simp [Floor.left, h, g]

theorem tickFloor_of_end {s : State} (still : s.floor.shift = none) (last : s.floor.left ≤ 1) :
    tickFloor s = { s with floor := { s.floor with time := 0, secondRead := false }, due := s.due ++ [.floorFrameBoundary] } := by
  obtain ⟨e, shifts, -⟩ | ⟨-, -, h⟩ | ⟨-, more, -⟩ | ⟨-, more, -⟩ := tickFloor_cases s
  · exact absurd (shifts.symm.trans still) (by simp)
  · exact h
  · omega
  · omega

theorem tickFloor_of_twice {s : State} (still : s.floor.shift = none) (more : 1 < s.floor.left) (top : s.floor.time = 32767) :
    tickFloor s = { s with floor := { s.floor with secondRead := true } } := by
  obtain ⟨e, shifts, -⟩ | ⟨-, last, -⟩ | ⟨-, -, -, h⟩ | ⟨-, -, below, -⟩ := tickFloor_cases s
  · exact absurd (shifts.symm.trans still) (by simp)
  · omega
  · exact h
  · exact absurd top below

theorem tickFloor_of_inside {s : State} (still : s.floor.shift = none) (more : 1 < s.floor.left) (below : s.floor.time ≠ 32767) :
    tickFloor s = { s with floor := { s.floor with time := s.floor.time + 1 } } := by
  obtain ⟨e, shifts, -⟩ | ⟨-, last, -⟩ | ⟨-, -, top, -⟩ | ⟨-, -, -, h⟩ := tickFloor_cases s
  · exact absurd (shifts.symm.trans still) (by simp)
  · omega
  · exact absurd top below
  · exact h

theorem tickLoader_floor (s : State) : (tickLoader s).floor = s.floor := by
  unfold tickLoader
  dsimp only
  split
  · rfl
  · split <;> rfl

theorem tickLoader_boundary (s : State) : .floorFrameBoundary ∈ (tickLoader s).due ↔ .floorFrameBoundary ∈ s.due := by
  unfold tickLoader
  dsimp only
  split
  · rfl
  · split
    · simp [State.nowDue]
    · rfl

/-- A period of the fine clock moves the floor clock as `tickFloor` says, in every floor state. -/
theorem Idling.step_floor {s : State} (h : Idling s) : ∃ t, step s = .next t ∧ t.floor = (tickFloor s).floor
    ∧ (.floorFrameBoundary ∈ t.due ↔ .floorFrameBoundary ∈ (tickFloor s).due) := by
  by_cases loading : s.floor.state = .loading
  · exact ⟨_, h.step_loading loading, tickLoader_floor _, tickLoader_boundary _⟩
  · obtain ⟨t, run, -, floor, -, due⟩ := h.step_lines (by simpa [State.running] using loading)
    exact ⟨t, run, floor, due⟩

/-- Settles O30: the clock by `Floor.boundary_eq`, what falls due by `mem_marksDue`, the clockwork by `tickFloor_cases`. -/
theorem boundaryCountsAndAddsF : Obligations.BoundaryCountsAndAddsF := by
  intro s
  refine ⟨fun out small freq residue => ?boundary, fun idling noShift small => ?clock⟩
  case boundary =>
    have frame := Floor.nextFrame_frame s.floor small
    have mark : s.floor.boundary.frame = 0 ↔ s.floor.frame = 63 := by
      rw [Floor.boundary_frame_eq, frame]
      split <;> omega
    have running : s.boundaryCounted.running = s.running :=
      congrArg (fun x : FloorState => x != .loading) (Floor.boundary_state s.floor)
    have marks : (s.boundaryCounted.floor.frame = 0 ∧ s.boundaryCounted.bus.jabber = true
        ∧ 2 ≤ s.boundaryCounted.bus.marksSinceCut) ↔ s.floor.frame = 63 ∧ s.bus.jabber = true ∧ 1 ≤ s.bus.marksSinceCut := by
      change (s.floor.boundary.frame = 0 ∧ s.bus.jabber = true ∧ 2 ≤ ite _ _ _) ↔ _
      constructor
      · rintro ⟨last, live, two⟩
        rw [if_pos ⟨last, live⟩] at two
        exact ⟨mark.mp last, live, by unfold bump at two; split at two <;> omega⟩
      · rintro ⟨last, live, one⟩
        refine ⟨mark.mpr last, live, ?_⟩
        rw [if_pos ⟨mark.mpr last, live⟩]
        unfold bump
        split <;> omega
    have due : ∀ c, c ∈ marksDue s.boundaryCounted ↔
        (c = .jabberReexamination ∧ s.floor.frame = 63 ∧ s.bus.jabber = true ∧ 1 ≤ s.bus.marksSinceCut)
          ∨ (s.running = true ∧ ((∃ l, c = .readMark l)
            ∨ (s.floor.frame = 63 ∧ ((∃ l, s.enabled l = true ∧ c = .receiverEpochClose l) ∨ c = .monitorEpochWork ∨ c = .epochMark))
            ∨ (s.floor.boundary.frame % s.interval = 0 ∧ c = .bulletinMark))) := fun c => by
      rw [mem_marksDue, marks, running, ← mark]
      rfl
    have taken := exec_floorFrameBoundary out
    have joined : ∀ c, c ∈ (s.boundaryCounted.due ++ marksDue s.boundaryCounted) ↔
        c ∈ s.due.erase .floorFrameBoundary ∨ c ∈ marksDue s.boundaryCounted := fun c => List.mem_append
    have added := s.floor.addFreq_spec
    have inside : s.floor.boundary.residue.natAbs ≤ 65535 := by
      by_cases epoch : s.floor.nextFrame.frame = 0 ∧ s.floor.state ≠ .loading
      · rw [(Floor.boundary_of_epoch epoch.1 epoch.2).1]
        exact residue
      · rw [(Floor.boundary_of_frame (by tauto)).1]
        exact Floor.addFreq_residue s.floor (by omega) residue
    refine ⟨_, taken, (congrArg Floor.time s.floor.boundary_eq :), (s.floor.boundary_frame_eq.trans frame), ?_, fun ⟨last, runs⟩ => ?_,
      fun more => ?_, inside, fun runs l => ?_, fun runs last => ?_, fun runs interval => ?_, ?_, fun c new => ?_, ?_, rfl⟩
    · refine (congrArg Floor.epoch s.floor.boundary_eq :).trans ?_
      change (if (s.floor.frame + 1) % 64 = 0 then bump 4294967295 s.floor.epoch else s.floor.epoch) = _
      unfold bump
      by_cases last : s.floor.frame = 63
      · rw [if_pos (show (s.floor.frame + 1) % 64 = 0 by omega)]
        simp only [last, true_and]
      · rw [if_neg (by omega), if_neg (fun h => last h.1)]
    · exact Floor.boundary_of_epoch (s.floor.boundary_frame_eq.symm.trans (mark.mpr last)) runs
    · have ordinary : s.floor.nextFrame.frame ≠ 0 ∨ s.floor.state = .loading :=
        more.imp_left fun h zero => h (mark.mp (s.floor.boundary_frame_eq.trans zero))
      obtain ⟨residue, kind⟩ := Floor.boundary_of_frame ordinary
      change (_ → s.floor.boundary.kind = _ ∧ s.floor.boundary.residue = _)
        ∧ (_ → s.floor.boundary.kind = _ ∧ s.floor.boundary.residue = _)
        ∧ (_ → s.floor.boundary.kind = _ ∧ s.floor.boundary.residue = _)
      rw [residue, kind]
      exact added
    · exact (joined _).mpr (.inr ((due _).mpr (.inr ⟨runs, .inl ⟨l, rfl⟩⟩)))
    · exact (joined _).mpr (.inr ((due _).mpr (.inr ⟨runs, .inr (.inl ⟨last, .inr (.inr rfl)⟩)⟩)))
    · exact (joined _).mpr (.inr ((due _).mpr (.inr ⟨runs, .inr (.inr ⟨interval, rfl⟩)⟩)))
    · change (if s.floor.boundary.frame = 0 ∧ s.bus.jabber = true then bump 2 s.bus.marksSinceCut else s.bus.marksSinceCut) = _
      unfold bump
      by_cases cut : s.floor.frame = 63 ∧ s.bus.jabber = true
      · rw [if_pos ⟨mark.mpr cut.1, cut.2⟩]
        simp only [cut, true_and]
      · rw [if_neg (fun h => cut ⟨mark.mp h.1, h.2⟩), if_neg (fun h => cut ⟨h.1, h.2.1⟩)]
    · rw [joined, or_iff_right (fun old => new (List.mem_of_mem_erase old))]
      exact due c
    · exact s.floor.boundary_fields
  case clock =>
    obtain ⟨t, run, floor, due⟩ := idling.step_floor
    refine ⟨t, run, ?_⟩
    change (_ → _ ∈ t.due ∧ t.floor = _) ∧ (_ → _ → _ → _ ∉ t.due ∧ t.floor = _) ∧ (_ → _ → _ ∉ t.due ∧ t.floor = _)
    rw [floor, due]
    have none : .floorFrameBoundary ∉ s.due := by simp [idling.2.1]
    refine ⟨fun ends => ?_, fun long at_ first => ?_, fun inside first => ?_⟩
    · have : s.floor.left ≤ 1 := by
        obtain ⟨kind, time⟩ | ⟨kind, time⟩ | ⟨kind, time, second⟩ := ends
        · have := Floor.left_of_short kind; omega
        · have := Floor.left_of_normal kind; omega
        · have := (Floor.left_of_long kind).1 second; omega
      rw [tickFloor_of_end noShift this]
      exact ⟨List.mem_append_right _ (List.mem_singleton_self _), rfl⟩
    · have : 1 < s.floor.left := by
        have := (Floor.left_of_long long).2 first
        omega
      rw [tickFloor_of_twice noShift this at_]
      exact ⟨none, rfl⟩
    · have : 1 < s.floor.left ∧ s.floor.time ≠ 32767 := by
        obtain ⟨kind, time⟩ | ⟨kind, time⟩ := inside
        · have := Floor.left_of_short kind; omega
        · cases h : s.floor.kind with
          | short => exact absurd h kind
          | normal => have := Floor.left_of_normal h; omega
          | long => have := (Floor.left_of_long h).2 (first h); omega
      rw [tickFloor_of_inside noShift this.1 this.2]
      exact ⟨none, rfl⟩

end Sys2Proof.Machine
end

section
/-! A line judged at an event of its receiver: loss of the clock, loss of the frame, the service octet (01, sections 1.2 to 1.4; 03,
sections 3.5 and 3.6). -/

namespace Sys2Proof.Machine

/-! ### The re-judging of a line (R52 to R54, R59) -/

/-- Re-judgings of line `l` from `s` to `t`, none of which finds it otherwise qualified: its monitor stands, or it is disqualified and,
where it was selected, dropped with the notice. -/
def Falls (l : LineNo) (s t : State) : Prop :=
  (((t.line l).mon = { (s.line l).mon with latched := (t.line l).mon.latched } ∧ t.selected = s.selected ∧ t.lostNotice = s.lostNotice)
    ∨ ((s.line l).mon.otherwise = true
      ∧ (t.line l).mon = { (s.line l).mon with
          latched := (t.line l).mon.latched, otherwise := false, wtr := 16 * (s.lineSetup l).wtrCode, candidate := false }
      ∧ (t.selected, t.lostNotice) = (if s.selected = some l then (none, some l) else (s.selected, s.lostNotice))))
    ∧ (s.selected ≠ some l → t.gradeNotice = s.gradeNotice)
    ∧ t.lineSetup l = s.lineSetup l

/-- A step that leaves the monitor but its flags, and the selector, judges nothing. -/
theorem Falls.of_mon {l : LineNo} {s t : State} (mon : (t.line l).mon = { (s.line l).mon with latched := (t.line l).mon.latched })
    (selected : t.selected = s.selected) (lost : t.lostNotice = s.lostNotice) (grade : t.gradeNotice = s.gradeNotice)
    (setup : t.lineSetup l = s.lineSetup l) : Falls l s t :=
  ⟨.inl ⟨mon, selected, lost⟩, fun _ => grade, setup⟩

theorem Falls.trans {l : LineNo} {s t u : State} (first : Falls l s t) (second : Falls l t u) : Falls l s u := by
  obtain ⟨first, grade, setup⟩ := first
  obtain ⟨second, grade', setup'⟩ := second
  obtain ⟨mon, selected, lost⟩ | ⟨was, mon, selection⟩ := first
  · refine ⟨?_, fun h => (grade' (selected ▸ h)).trans (grade h), setup'.trans setup⟩
    obtain ⟨mon', selected', lost'⟩ | ⟨was', mon', selection'⟩ := second
    · refine .inl ⟨?_, selected'.trans selected, lost'.trans lost⟩
      rw [mon', mon]
    · rw [mon] at was'
      refine .inr ⟨was', ?_, ?_⟩
      · rw [mon', mon, setup]
      · rw [selection', selected, lost]
  · have gone : s.selected ≠ some l → t.selected = s.selected := fun h => by
      rw [if_neg h] at selection
      exact (Prod.mk.inj selection).1
    refine ⟨.inr ⟨was, ?_, ?_⟩, fun h => (grade' (gone h ▸ h)).trans (grade h), setup'.trans setup⟩
    · obtain ⟨mon', -⟩ | ⟨was', -⟩ := second
      · rw [mon', mon]
      · rw [mon] at was'
        exact absurd was' Bool.false_ne_true
    · obtain ⟨-, selected', lost'⟩ | ⟨was', -⟩ := second
      · rw [selected', lost', selection]
      · rw [mon] at was'
        exact absurd was' Bool.false_ne_true

/-- Once the line is judged not otherwise qualified, the monitor and the selection are as that leaves them. -/
theorem Falls.fallen {l : LineNo} {s t : State} (falls : Falls l s t) (now : (t.line l).mon.otherwise = false) :
    (t.line l).mon = { (s.line l).mon with
        latched := (t.line l).mon.latched, otherwise := false
        wtr := if (s.line l).mon.otherwise then 16 * (s.lineSetup l).wtrCode else (s.line l).mon.wtr
        candidate := (s.line l).mon.candidate && !(s.line l).mon.otherwise }
      ∧ ((s.line l).mon.otherwise = true → s.selected = some l → t.selected = none ∧ t.lostNotice = some l)
      ∧ (s.selected ≠ some l →
          t.selected = s.selected ∧ t.lostNotice = s.lostNotice ∧ t.gradeNotice = s.gradeNotice) := by
  obtain ⟨⟨mon, selected, lost⟩ | ⟨was, mon, selection⟩, grade, -⟩ := falls
  · have same : (s.line l).mon.otherwise = false := (congrArg Monitor.otherwise mon).symm.trans now
    refine ⟨?_, fun h => absurd h (by simp [same]), fun other => ⟨selected, lost, grade other⟩⟩
    rw [mon]
    simp [same]
  · refine ⟨?_, fun _ h => ?_, fun other => ?_⟩
    · rw [mon]
      simp [was]
    · rw [if_pos h] at selection
      exact Prod.mk.inj selection
    · rw [if_neg other] at selection
      exact ⟨(Prod.mk.inj selection).1, (Prod.mk.inj selection).2, grade other⟩

/-- A line that is not ALIGNED is not otherwise qualified (R52). -/
theorem qualifies_of_not_aligned (u : LineSetup) {x : Line} (h : x.lrx.align ≠ .aligned) : qualifies u x = false := by
  simp [qualifies, h]

theorem rejudge_line (l : LineNo) (s : State) :
    (rejudge l s).line l = { s.line l with mon := ((rejudge l s).line l).mon } := by
  rw [(rejudge_spec l s).1]

theorem rejudge_setup (l m : LineNo) (s : State) : (rejudge l s).lineSetup m = s.lineSetup m :=
  (congrArg (fun u : State => u.lineSetup m) (rejudge_spec l s).2.2.2 :)

theorem rejudge_falls {l : LineNo} {s : State} (out : qualifies (s.lineSetup l) (s.line l) = false) : Falls l s (rejudge l s) := by
  obtain ⟨line, -, selection, rest⟩ := rejudge_spec l s
  obtain ⟨-, same, moved⟩ := judge_spec (s.lineSetup l) (qualifies (s.lineSetup l) (s.line l)) (s.line l).mon
  refine ⟨?_, fun _ => (congrArg State.gradeNotice rest :), rejudge_setup l l s⟩
  rw [out] at line selection same moved
  rw [line]
  cases was : (s.line l).mon.otherwise with
  | false =>
    rw [if_neg (fun h => absurd (was.symm.trans h.1) Bool.false_ne_true)] at selection
    exact .inl ⟨by rw [same was], Prod.mk.inj selection⟩
  | true =>
    refine .inr ⟨rfl, by rw [moved (by simp [was]), Bool.false_and], ?_⟩
    simpa only [was, true_and] using selection

theorem acceptGrade_line (l : LineNo) (g : Nat) (s : State) :
    (acceptGrade l g s).line l
        = { s.line l with lrx := { (s.line l).lrx with grade := g }, mon := ((acceptGrade l g s).line l).mon }
      ∧ ((acceptGrade l g s).line l).mon.latched = (s.line l).mon.latched := by
  have judged : (rejudge l (s.onLrx l fun r => { r with grade := g })).line l
        = { s.line l with
            lrx := { (s.line l).lrx with grade := g }, mon := ((rejudge l (s.onLrx l fun r => { r with grade := g })).line l).mon }
      ∧ ((rejudge l (s.onLrx l fun r => { r with grade := g })).line l).mon.latched = (s.line l).mon.latched :=
    ⟨(rejudge_line l _).trans (by rw [State.onLrx_line]), (rejudge_live l _ .lof).2.trans (by rw [State.onLrx_line])⟩
  unfold acceptGrade
  split
  · next same => exact ⟨by rw [← same], rfl⟩
  · dsimp only
    split <;> exact judged

theorem acceptGrade_falls {l : LineNo} (g : Nat) {s : State} (out : (s.line l).lrx.align ≠ .aligned) : Falls l s (acceptGrade l g s) := by
  unfold acceptGrade
  split
  · exact .of_mon rfl rfl rfl rfl rfl
  · have graded : Falls l s (s.onLrx l fun r => { r with grade := g }) :=
      .of_mon (by rw [State.onLrx_line]) rfl rfl rfl rfl
    have judged := graded.trans (rejudge_falls (qualifies_of_not_aligned _ (by rw [State.onLrx_line]; exact out)))
    dsimp only
    split
    · next stays =>
      obtain ⟨moves, grade, setup⟩ := judged
      refine ⟨moves, fun other => absurd stays ?_, setup⟩
      obtain ⟨-, selected, -⟩ | ⟨-, -, selection⟩ := moves
      · rwa [selected]
      · rw [if_neg other] at selection
        rwa [(Prod.mk.inj selection).1]
    · exact judged

/-- LOF asserted: it is live, its flag is latched where it was not live, and the line is judged. -/
theorem raise_lof_line (l : LineNo) (s : State) :
    (raise .lof l s).line l
        = { s.line l with lrx := { (s.line l).lrx with lof := true }, mon := ((raise .lof l s).line l).mon }
      ∧ ((raise .lof l s).line l).mon.latched
        = { (s.line l).mon.latched with lof := (s.line l).mon.latched.lof || !(s.line l).lrx.lof } := by
  unfold raise
  split
  · next live =>
    have live : (s.line l).lrx.lof = true := live
    rw [← live]
    exact ⟨rfl, by simp [live]⟩
  · next not =>
    have not : (s.line l).lrx.lof = false := by simpa [Line.live] using not
    refine ⟨(rejudge_line l _).trans (by rw [State.setLine_line]; rfl), ?_⟩
    rw [(rejudge_live l _ .lof).2, State.setLine_line, not, Bool.not_false, Bool.or_true]
    rfl

theorem raise_lof_falls {l : LineNo} {s : State} (out : (s.line l).lrx.align ≠ .aligned) : Falls l s (raise .lof l s) := by
  have set : ∀ x : Line, x.mon = { (s.line l).mon with latched := x.mon.latched } → x.lrx.align ≠ .aligned →
      Falls l s (rejudge l (s.setLine l x)) := fun x mon out =>
    Falls.trans (t := s.setLine l x) (.of_mon (by rw [State.setLine_line]; exact mon) rfl rfl rfl rfl)
      (rejudge_falls (qualifies_of_not_aligned _ (by rw [State.setLine_line]; exact out)))
  unfold raise
  split
  · exact .of_mon rfl rfl rfl rfl rfl
  · exact set _ rfl out

theorem squelch_falls (l : LineNo) (s : State) : Falls l s (squelch l s) := by
  obtain ⟨line, -, rest⟩ := squelch_spec l s
  refine .of_mon ?_ (congrArg State.selected rest :) (congrArg State.lostNotice rest :) (congrArg State.gradeNotice rest :)
    (congrArg (fun u : State => u.lineSetup l) rest :)
  rw [line]

/-! ### A line that has left its frame (R2, R7, R32) -/

/-- A line judged on a receiver that has lost the frame, and its traffic squelched. -/
theorem judged_out (l : LineNo) {s : State} (out : (s.line l).lrx.align ≠ .aligned) :
    (squelch l (rejudge l s)).line l = { s.line l with
        framer := { (s.line l).framer with
          squelched := (s.line l).framer.squelched || ((s.line l).framer.inHand.map InHand.traffic).getD false }
        mon := ((squelch l (rejudge l s)).line l).mon }
      ∧ ((squelch l (rejudge l s)).line l).mon.latched = (s.line l).mon.latched
      ∧ ((squelch l (rejudge l s)).line l).mon.otherwise = false
      ∧ Falls l s (squelch l (rejudge l s)) := by
  have sound := rejudge_sound l s
  have line := rejudge_line l s
  rw [qualifies_of_not_aligned _ (by rw [line]; exact out)] at sound
  rw [(squelch_spec l _).1]
  refine ⟨?_, (rejudge_live l s .lof).2, sound, (rejudge_falls (qualifies_of_not_aligned _ out)).trans (squelch_falls l _)⟩
  rw [line]

theorem enterDark_spec (l : LineNo) (s : State) :
    (enterDark l s).line l = { s.line l with
        lrx := { (s.line l).lrx.enterDark with grade := 6, lof := true }
        framer := { (s.line l).framer with
          squelched := (s.line l).framer.squelched || ((s.line l).framer.inHand.map InHand.traffic).getD false }
        mon := ((enterDark l s).line l).mon }
      ∧ ((enterDark l s).line l).mon.latched
        = { (s.line l).mon.latched with lof := (s.line l).mon.latched.lof || !(s.line l).lrx.lof }
      ∧ ((enterDark l s).line l).mon.otherwise = false
      ∧ Falls l s (enterDark l s) := by
  have received : Falls l s (s.onLrx l Lrx.enterDark) := .of_mon (by rw [State.onLrx_line]) rfl rfl rfl rfl
  have dark : ((s.onLrx l Lrx.enterDark).line l).lrx.align ≠ .aligned := by
    rw [State.onLrx_line]
    exact Align.noConfusion
  obtain ⟨graded, keeps⟩ := acceptGrade_line l 6 (s.onLrx l Lrx.enterDark)
  have dark' : ((acceptGrade l 6 (s.onLrx l Lrx.enterDark)).line l).lrx.align ≠ .aligned := by
    rw [graded]
    exact dark
  have gradeFalls := acceptGrade_falls 6 dark
  obtain ⟨raised, latched⟩ := raise_lof_line l (acceptGrade l 6 (s.onLrx l Lrx.enterDark))
  have raiseFalls := raise_lof_falls dark'
  have dark'' : ((raise .lof l (acceptGrade l 6 (s.onLrx l Lrx.enterDark))).line l).lrx.align ≠ .aligned := by
    rw [raised]
    exact dark'
  obtain ⟨line, flags, otherwise, falls⟩ := judged_out l dark''
  refine ⟨?_, ?_, otherwise, ((received.trans gradeFalls).trans raiseFalls).trans falls⟩
  · change (squelch l (rejudge l _)).line l = _
    rw [line, raised, graded, State.onLrx_line]
    rfl
  · exact flags.trans (latched.trans (by rw [keeps, graded, State.onLrx_line]; rfl))

theorem exitAligned_spec (l : LineNo) (s : State) :
    (exitAligned l s).line l = { s.line l with
        lrx := { (s.line l).lrx.exitAligned with grade := 6 }
        framer := { (s.line l).framer with
          squelched := (s.line l).framer.squelched || ((s.line l).framer.inHand.map InHand.traffic).getD false }
        mon := ((exitAligned l s).line l).mon }
      ∧ ((exitAligned l s).line l).mon.latched = (s.line l).mon.latched
      ∧ ((exitAligned l s).line l).mon.otherwise = false
      ∧ Falls l s (exitAligned l s) := by
  have received : Falls l s (s.onLrx l Lrx.exitAligned) := .of_mon (by rw [State.onLrx_line]) rfl rfl rfl rfl
  have out : ((s.onLrx l Lrx.exitAligned).line l).lrx.align ≠ .aligned := by
    rw [State.onLrx_line]
    exact Align.noConfusion
  obtain ⟨graded, keeps⟩ := acceptGrade_line l 6 (s.onLrx l Lrx.exitAligned)
  have out' : ((acceptGrade l 6 (s.onLrx l Lrx.exitAligned)).line l).lrx.align ≠ .aligned := by
    rw [graded]
    exact out
  obtain ⟨line, flags, otherwise, falls⟩ := judged_out l out'
  refine ⟨?_, flags.trans (keeps.trans (by rw [State.onLrx_line])), otherwise, (received.trans (acceptGrade_falls 6 out)).trans falls⟩
  change (squelch l (rejudge l _)).line l = _
  rw [line, graded, State.onLrx_line]
  rfl

/-! ### The alignment words (R7) -/

theorem exec_alignmentWordCheck {l : LineNo} {s : State} (runs : s.running = true) (aligned : (s.line l).lrx.align = .aligned)
    (word : Octet) : exec (.alignmentWordCheck l word) s = .next (
      if 3 ≤ ((s.line l).lrx.wordResult (word != Config.alignmentWord)).count true
      then exitAligned l (s.onLrx l fun r => { r with edgeWatch := 0 })
      else (s.onLrx l fun r => { r with edgeWatch := 0 }).onLrx l fun r =>
        { r with wordWindow := (s.line l).lrx.wordResult (word != Config.alignmentWord), accBefore := none }) :=
  congrArg Host.Outcome.next (if_pos (by simp [runs, State.isAligned, aligned]))

theorem wordResult_count (r : Lrx) (word : Octet) :
    r.wordResult (word != Config.alignmentWord) = decide (word ≠ 0x6B#8) :: r.wordWindow.take 3
      ∧ (r.wordResult (word != Config.alignmentWord)).count true
        = (r.wordWindow.take 3).count true + (if word = 0x6B#8 then 0 else 1) := by
  have result : r.wordResult (word != Config.alignmentWord) = decide (word ≠ 0x6B#8) :: r.wordWindow.take 3 := by
    unfold Lrx.wordResult
    rw [List.take_succ_cons]
    congr 1
    exact Bool.eq_iff_iff.mpr (bne_iff_ne.trans decide_eq_true_iff.symm)
  refine ⟨result, ?_⟩
  rw [result, List.count_cons]
  by_cases good : word = 0x6B#8 <;> simp [good]

/-- Settles O14: below three errored words the result joins the window, at the third `exitAligned_spec`. -/
theorem wordWindowHoldsAlignment : Obligations.WordWindowHoldsAlignment := by
  intro l word s
  obtain ⟨result, count⟩ := wordResult_count (s.line l).lrx word
  refine ⟨fun runs aligned few => ⟨_, (exec_alignmentWordCheck runs aligned word).trans (congrArg Host.Outcome.next
      (if_neg (by rw [count]; omega))), ?_, (onlyLine_onLrx s l _).trans (onlyLine_onLrx _ l _)⟩,
    fun runs aligned three => ⟨_, (exec_alignmentWordCheck runs aligned word).trans (congrArg Host.Outcome.next
      (if_pos (by rw [count]; exact three))), ?_⟩⟩
  · rw [State.onLrx_line, State.onLrx_line, result]
  · have seen : Falls l s (s.onLrx l fun r => { r with edgeWatch := 0 }) := .of_mon (by rw [State.onLrx_line]) rfl rfl rfl rfl
    obtain ⟨line, latched, out, falls⟩ := exitAligned_spec l (s.onLrx l fun r => { r with edgeWatch := 0 })
    have only := (onlyLine_onLrx s l fun r => { r with edgeWatch := 0 }).selection.trans (exitAligned_frame l _)
    rw [State.onLrx_line] at line latched
    have left := (seen.trans falls).fallen out
    rw [latched] at left
    obtain ⟨mon, drops, keeps⟩ := left
    exact ⟨(congrArg Line.lrx line :), (congrArg Line.store line :), (congrArg Line.framer line :), mon, drops, keeps, only⟩

/-! ### The service octet (R9 to R13, R58, R59) -/

/-- What a change of the accepted grade or far-end flag does to the selection: it stands, or line `l` is dropped with its notice; and
while line `l` stays selected it stays otherwise qualified. -/
def Holds (l : LineNo) (s t : State) : Prop :=
  ((t.selected = s.selected ∧ t.lostNotice = s.lostNotice) ∨ (s.selected = some l ∧ t.selected = none ∧ t.lostNotice = some l))
    ∧ ((s.line l).mon.otherwise = true → t.selected = some l → (t.line l).mon.otherwise = true)

theorem Holds.trans {l : LineNo} {s t u : State} (first : Holds l s t) (second : Holds l t u) : Holds l s u := by
  obtain ⟨first, stays⟩ := first
  obtain ⟨second, stays'⟩ := second
  refine ⟨?_, fun was still => ?_⟩
  · obtain ⟨selected, lost⟩ | ⟨was, none, lost⟩ := first
    · rw [← selected, ← lost]
      exact second
    · obtain ⟨selected', lost'⟩ | ⟨again, -⟩ := second
      · exact .inr ⟨was, selected'.trans none, lost'.trans lost⟩
      · exact absurd (none.symm.trans again) (by simp)
  · have before : t.selected = some l := by
      obtain ⟨selected', -⟩ | ⟨-, none, -⟩ := second
      · exact selected'.symm.trans still
      · exact absurd (none.symm.trans still) (by simp)
    exact stays' (stays was before) still

theorem Holds.of_mon {l : LineNo} {s t : State} (selected : t.selected = s.selected) (lost : t.lostNotice = s.lostNotice)
    (mon : (t.line l).mon = (s.line l).mon) : Holds l s t :=
  ⟨.inl ⟨selected, lost⟩, fun was _ => by rw [mon]; exact was⟩

theorem rejudge_holds (l : LineNo) (s : State) : Holds l s (rejudge l s) := by
  obtain ⟨line, -, selection, -⟩ := rejudge_spec l s
  have judged : ((rejudge l s).line l).mon.otherwise = qualifies (s.lineSetup l) (s.line l) := by
    rw [line]
    exact (judge_spec _ _ _).1
  by_cases drops : (s.line l).mon.otherwise = true ∧ qualifies (s.lineSetup l) (s.line l) = false ∧ s.selected = some l
  · rw [if_pos drops] at selection
    obtain ⟨none, lost⟩ := Prod.mk.inj selection
    exact ⟨.inr ⟨drops.2.2, none, lost⟩, fun _ still => absurd (none.symm.trans still) (by simp)⟩
  · rw [if_neg drops] at selection
    obtain ⟨selected, lost⟩ := Prod.mk.inj selection
    refine ⟨.inl ⟨selected, lost⟩, fun was still => judged.trans ?_⟩
    cases fits : qualifies (s.lineSetup l) (s.line l) with
    | true => rfl
    | false => exact absurd ⟨was, fits, selected.symm.trans still⟩ drops

/-- The taking of a grade and a far-end flag into use on line `l`: a new grade of the line that stays selected is noticed, and a change
of either judges the line (R52, R58). -/
def Takes (l : LineNo) (s t : State) : Prop :=
  Holds l s t
    ∧ ((t.line l).lrx.grade ≠ (s.line l).lrx.grade → t.selected = some l → t.gradeNotice = some (l, (t.line l).lrx.grade))
    ∧ ((t.line l).lrx.grade = (s.line l).lrx.grade ∨ s.selected ≠ some l → t.gradeNotice = s.gradeNotice)
    ∧ ((t.line l).lrx.grade ≠ (s.line l).lrx.grade ∨ (t.line l).lrx.farEnd ≠ (s.line l).lrx.farEnd →
        (t.line l).mon.otherwise = qualifies (t.lineSetup l) (t.line l))

theorem Takes.refl (l : LineNo) (s : State) : Takes l s s :=
  ⟨.of_mon rfl rfl rfl, fun other => absurd rfl other, fun _ => rfl, fun other => absurd rfl (other.resolve_left (absurd rfl))⟩

/-- First the grade, then the far-end flag. -/
theorem Takes.trans {l : LineNo} {s t u : State} (first : Takes l s t) (second : Takes l t u)
    (grade : (u.line l).lrx.grade = (t.line l).lrx.grade)
    (stands : (u.line l).lrx.farEnd = (t.line l).lrx.farEnd → u = t) : Takes l s u := by
  obtain ⟨holds, notice, still, sound⟩ := first
  obtain ⟨holds', -, still', sound'⟩ := second
  have same := still' (.inl grade)
  refine ⟨holds.trans holds', fun new selected => ?_, fun old => same.trans (still (grade ▸ old)), fun changed => ?_⟩
  · rw [grade] at new ⊢
    have before : t.selected = some l := by
      obtain ⟨⟨selected', -⟩ | ⟨-, none, -⟩, -⟩ := holds'
      · exact selected'.symm.trans selected
      · exact absurd (none.symm.trans selected) (by simp)
    exact same.trans (notice new before)
  · by_cases moved : (u.line l).lrx.farEnd = (t.line l).lrx.farEnd
    · rw [stands moved] at changed ⊢
      exact sound changed
    · exact sound' (.inr moved)

theorem acceptGrade_takes (l : LineNo) (g : Nat) (s : State) : Takes l s (acceptGrade l g s) := by
  obtain ⟨line, -⟩ := acceptGrade_line l g s
  have grade : ((acceptGrade l g s).line l).lrx.grade = g := (congrArg (fun x : Line => x.lrx.grade) line :)
  have stands : ((acceptGrade l g s).line l).lrx.farEnd = (s.line l).lrx.farEnd := (congrArg (fun x : Line => x.lrx.farEnd) line :)
  have judged : Holds l s (rejudge l (s.onLrx l fun r => { r with grade := g })) :=
    Holds.trans (t := s.onLrx l fun r => { r with grade := g }) (.of_mon rfl rfl (by rw [State.onLrx_line])) (rejudge_holds l _)
  have noticed : (rejudge l (s.onLrx l fun r => { r with grade := g })).gradeNotice = s.gradeNotice :=
    (congrArg State.gradeNotice (rejudge_spec l (s.onLrx l fun r => { r with grade := g })).2.2.2 :)
  have sound := rejudge_sound l (s.onLrx l fun r => { r with grade := g })
  unfold Takes
  rw [grade, stands]
  unfold acceptGrade
  split
  · next same => exact ⟨.of_mon rfl rfl rfl, fun other => absurd same.symm other, fun _ => rfl,
      fun other => absurd same.symm (other.resolve_right (absurd rfl))⟩
  · next other =>
    dsimp only
    split
    · next still =>
      refine ⟨judged, fun _ _ => rfl, fun h => ?_, fun _ => sound⟩
      obtain ⟨⟨selected, -⟩ | ⟨-, none, -⟩, -⟩ := judged
      · exact absurd (selected.symm.trans still) (h.resolve_left fun h => other h.symm)
      · exact absurd (none.symm.trans still) (by simp)
    · next gone => exact ⟨judged, fun _ still => absurd still gone, fun _ => noticed, fun _ => sound⟩

theorem acceptFarEnd_line (l : LineNo) (v : Bool) (s : State) : (acceptFarEnd l v s).line l
    = { s.line l with lrx := { (s.line l).lrx with farEnd := v }, mon := ((acceptFarEnd l v s).line l).mon } := by
  unfold acceptFarEnd
  split
  · next same => rw [← same]
  · exact (rejudge_line l _).trans (by rw [State.onLrx_line])

theorem acceptFarEnd_takes (l : LineNo) (v : Bool) (s : State) : Takes l s (acceptFarEnd l v s) := by
  have line := acceptFarEnd_line l v s
  have grade : ((acceptFarEnd l v s).line l).lrx.grade = (s.line l).lrx.grade := (congrArg (fun x : Line => x.lrx.grade) line :)
  refine ⟨?_, fun other => absurd grade other, fun _ => ?_, fun changed => ?_⟩
  · unfold acceptFarEnd
    split
    · exact .of_mon rfl rfl rfl
    · exact Holds.trans (t := s.onLrx l fun r => { r with farEnd := v }) (.of_mon rfl rfl (by rw [State.onLrx_line]))
        (rejudge_holds l _)
  · unfold acceptFarEnd
    split
    · rfl
    · exact (congrArg State.gradeNotice (rejudge_spec l (s.onLrx l fun r => { r with farEnd := v })).2.2.2 :)
  · have moved := changed.resolve_left (absurd grade)
    unfold acceptFarEnd at moved ⊢
    split
    · next same =>
      rw [if_pos same] at moved
      exact absurd rfl moved
    · exact rejudge_sound l _

theorem bump_eq (lim n : Nat) : bump lim n = if n < lim then n + 1 else n := rfl

theorem GradeRun.next_eq (g : GradeRun) (code : BitVec 3) :
    g.next code = ⟨some code, if g.last = some code then (if g.length < 4 then g.length + 1 else g.length) else 1⟩ := by
  unfold GradeRun.next
  split
  · next same => rw [same, bump_eq]
  · rfl

theorem FarRun.next_eq (g : FarRun) (v : Bool) :
    g.next v = ⟨some v, if g.last = some v then (if g.length < 4 then g.length + 1 else g.length) else 1⟩ := by
  unfold FarRun.next
  split
  · next same => rw [same, bump_eq]
  · rfl

theorem serviceGrade_eq (o : Octet) : serviceGrade o = BitVec.ofNat 3 (o.toNat / 32) := by
  apply BitVec.eq_of_toNat_eq
  simp [serviceGrade, BitVec.extractLsb'_toNat, Nat.shiftRight_eq_div_pow]

/-- The grade of a code: 0 and 7 stand for no grade, 6 (R10). -/
theorem gradeOfCode_serviceGrade (o : Octet) :
    gradeOfCode (serviceGrade o) = if o.toNat / 32 = 0 ∨ o.toNat / 32 = 7 then 6 else o.toNat / 32 := by
  have small : o.toNat / 32 < 8 := by
    have := o.isLt
    omega
  have value : (serviceGrade o).toNat = o.toNat / 32 := by
    rw [serviceGrade_eq, BitVec.toNat_ofNat, Nat.mod_eq_of_lt small]
  have zero : serviceGrade o = 0#3 ↔ o.toNat / 32 = 0 := by rw [← BitVec.toNat_inj, value]; rfl
  have seven : serviceGrade o = 7#3 ↔ o.toNat / 32 = 7 := by rw [← BitVec.toNat_inj, value]; rfl
  unfold gradeOfCode
  simp only [zero, seven, value]

theorem parityMismatch_iff (r : Lrx) (o : Octet) : parityMismatch r o = true ↔ r.trafficParity = some (!o.getLsbD 3) := by
  unfold parityMismatch
  cases r.trafficParity with
  | none => simp
  | some p => cases p <;> simp [serviceParity]

/-- The receiver after a decoded service octet (R9 to R13). -/
theorem Lrx.decode_eq (r : Lrx) (o : Octet) : r.decode o = { r with
    edgeWatch := 0
    gradeRun := ⟨some (BitVec.ofNat 3 (o.toNat / 32)), if r.gradeRun.last = some (BitVec.ofNat 3 (o.toNat / 32))
      then (if r.gradeRun.length < 4 then r.gradeRun.length + 1 else r.gradeRun.length) else 1⟩
    farRun := ⟨some (o.getLsbD 4), if r.farRun.last = some (o.getLsbD 4)
      then (if r.farRun.length < 4 then r.farRun.length + 1 else r.farRun.length) else 1⟩
    parityCount := if r.trafficParity = some (!o.getLsbD 3) ∧ r.parityCount < 255 then r.parityCount + 1 else r.parityCount } := by
  unfold Lrx.decode
  rw [GradeRun.next_eq, FarRun.next_eq, serviceGrade_eq]
  have parity : (if parityMismatch r o = true then bump 255 r.parityCount else r.parityCount)
      = if r.trafficParity = some (!o.getLsbD 3) ∧ r.parityCount < 255 then r.parityCount + 1 else r.parityCount := by
    have mismatch := parityMismatch_iff r o
    cases h : parityMismatch r o with
    | true => simp only [mismatch.mp h, true_and, if_pos, bump_eq]
    | false => rw [if_neg Bool.false_ne_true, if_neg (fun both => absurd (h.symm.trans (mismatch.mpr both.1)) Bool.false_ne_true)]
  rw [parity]
  rfl

/-- The accepted values after a decoded frame: the grade and the far-end flag are taken where their runs stand at 4. -/
theorem decodeService_spec (l : LineNo) (o : Octet) (s : State) :
    (decodeService l o s).line l = { s.line l with
        lrx := { (s.line l).lrx.decode o with
          grade := if ((s.line l).lrx.decode o).gradeRun.length = 4 then gradeOfCode (serviceGrade o) else (s.line l).lrx.grade
          farEnd := if ((s.line l).lrx.decode o).farRun.length = 4 then o.getLsbD 4 else (s.line l).lrx.farEnd }
        mon := ((decodeService l o s).line l).mon }
      ∧ Takes l (s.onLrx l fun r => r.decode o) (decodeService l o s) := by
  have decoded : (s.onLrx l fun r => r.decode o).line l = { s.line l with lrx := (s.line l).lrx.decode o } := State.onLrx_line s l _
  have graded : ∃ u, (if ((s.line l).lrx.decode o).gradeRun.length = 4
        then acceptGrade l (gradeOfCode (serviceGrade o)) (s.onLrx l fun r => r.decode o) else s.onLrx l fun r => r.decode o) = u
      ∧ u.line l = { s.line l with
          lrx := { (s.line l).lrx.decode o with
            grade := if ((s.line l).lrx.decode o).gradeRun.length = 4 then gradeOfCode (serviceGrade o) else (s.line l).lrx.grade }
          mon := (u.line l).mon }
      ∧ Takes l (s.onLrx l fun r => r.decode o) u := by
    refine ⟨_, rfl, ?_⟩
    split
    · exact ⟨(acceptGrade_line l _ _).1.trans (by rw [decoded]), acceptGrade_takes l _ _⟩
    · exact ⟨by rw [decoded]; rfl, .refl l _⟩
  obtain ⟨u, taken, line, takes⟩ := graded
  have unfolded : decodeService l o s
      = if ((s.line l).lrx.decode o).farRun.length = 4 then acceptFarEnd l (o.getLsbD 4) u else u := by
    rw [← taken]
    unfold decodeService
    dsimp only
    rw [decoded]
    rfl
  rw [unfolded]
  split
  · have last := acceptFarEnd_line l (o.getLsbD 4) u
    refine ⟨last.trans (by rw [line]), takes.trans (acceptFarEnd_takes l _ u) (congrArg (fun x : Line => x.lrx.grade) last :)
      fun same => ?_⟩
    exact (acceptFarEnd_spec l _ u).2.1 (same.symm.trans (congrArg (fun x : Line => x.lrx.farEnd) last :))
  · exact ⟨line, takes⟩

theorem exec_serviceOctetDecode {l : LineNo} {s : State} (runs : s.running = true) (aligned : (s.line l).lrx.align = .aligned)
    (o : Octet) : exec (.serviceOctetDecode l o) s
      = .next (if (s.line l).lrx.wordWindow.head? = some true then s else decodeService l o s) := by
  change Host.Outcome.next (if _ then _ else _) = _
  congr 1
  by_cases errored : (s.line l).lrx.wordWindow.head? = some true
  · rw [if_pos errored, if_neg]
    simp [Lrx.wordGood, errored]
  · rw [if_neg errored, if_pos]
    simp [Lrx.wordGood, errored, runs, State.isAligned, aligned]

/-- Settles O15: the receiver by `Lrx.decode_eq` and `decodeService_spec`, the selection and the notice by `Takes`. -/
theorem serviceOctetIsDecoded : Obligations.ServiceOctetIsDecoded := by
  intro l o s runs aligned
  refine ⟨fun errored => (exec_serviceOctetDecode runs aligned o).trans (congrArg Host.Outcome.next (if_pos errored)),
    fun good => ⟨_, (exec_serviceOctetDecode runs aligned o).trans (congrArg Host.Outcome.next (if_neg good)), ?_⟩⟩
  obtain ⟨line, ⟨selection, stays⟩, notice, still, sound⟩ := decodeService_spec l o s
  have frame := decodeService_frame l o s
  generalize decodeService l o s = t at *
  rw [Lrx.decode_eq, gradeOfCode_serviceGrade] at line
  have lrx := (congrArg Line.lrx line :)
  have gradeRun := (congrArg Lrx.gradeRun lrx :)
  have farRun := (congrArg Lrx.farRun lrx :)
  simp only [State.onLrx_line, State.onLrx_selected, State.onLrx_lostNotice, State.onLrx_gradeNotice] at selection stays notice still sound
  have grade : (t.line l).lrx.grade = _ := (congrArg Lrx.grade lrx :)
  have farEnd : (t.line l).lrx.farEnd = _ := (congrArg Lrx.farEnd lrx :)
  refine ⟨gradeRun, farRun, ?_, ?_, (congrArg Lrx.parityCount lrx :), ?_, (congrArg Line.store line :), (congrArg Line.framer line :),
    frame, fun selected new => ⟨notice new selected, ?_⟩, still, fun selected was changed bad => ?_, fun other => ?_⟩
  · rw [gradeRun]
    exact grade
  · rw [farRun]
    exact farEnd
  · rw [lrx]
  · obtain ⟨-, lost⟩ | ⟨-, none, -⟩ := selection
    · exact lost
    · exact absurd (none.symm.trans selected) (by simp)
  · obtain ⟨same, -⟩ | ⟨-, dropped⟩ := selection
    · have out : qualifies (t.lineSetup l) (t.line l) = false := by
        obtain grade | farEnd := bad
        · simp [qualifies, grade]
        · simp [qualifies, farEnd]
      exact absurd ((stays was (same.trans selected)).symm.trans ((sound changed).trans out)) (by decide)
    · exact dropped
  · exact selection.resolve_right fun h => other h.1

end Sys2Proof.Machine
end

section
/-! The hunt for the frame: the scan, the candidate's service octet, the confirmation points and the search timer (01, section 1.3), and
the loss and return of the clock (01, section 1.2). -/

namespace Sys2Proof.Machine

/-! ### One bit of the hunt at the receiver (R4, R5, R6) -/

/-- A bit in SEARCH with no candidate taken. -/
theorem huntBit_scan {r : Lrx} (search : r.align = .search) (empty : r.held = []) (b : Bool) :
    huntBit r b = (if (r.scan ++ [b]).drop (r.scan.length + 1 - 8) = octetBits Config.alignmentWord
      then { r with scan := [], held := octetBits Config.alignmentWord }
      else { r with scan := (r.scan ++ [b]).drop (r.scan.length + 1 - 8) }, .going) := by
  have scans : huntBit r b = (scanBit r b, .going) := by
    unfold huntBit
    rw [search]
    exact if_pos (by simp [empty])
  rw [scans]
  unfold scanBit
  dsimp only
  split
  · next hit => rw [hit]
  · rfl

/-- A bit in SEARCH with a candidate taken. -/
theorem huntBit_service {r : Lrx} (search : r.align = .search) (taken : r.held ≠ []) (b : Bool) :
    huntBit r b = (if r.held.length = 15 then
        { r with held := r.held ++ [b], align := .check, candidate := some ⟨serviceCount (bitsOctet (r.held.drop 8 ++ [b])), 0⟩ }
      else { r with held := r.held ++ [b] }, .going) := by
  have serves : huntBit r b = (serviceBit r b, .going) := by
    unfold huntBit
    rw [search]
    exact if_neg (by simpa using taken)
  rw [serves]
  unfold serviceBit
  dsimp only
  rw [List.length_append, List.length_singleton]
  by_cases eighth : r.held.length = 15
  · rw [if_pos (by omega), if_pos eighth, List.drop_append_of_le_length (by omega)]
  · rw [if_neg (by omega), if_neg eighth]

/-- The octet that ends at a bit, the seven bits held before it and the bit. -/
def Lrx.lastOctet (r : Lrx) (b : Bool) : Octet := bitsOctet (r.held.drop (r.held.length - 7) ++ [b])

/-- A bit in CHECK. -/
theorem huntBit_check {r : Lrx} {c : Candidate} (check : r.align = .check) (candidate : r.candidate = some c) (b : Bool) :
    huntBit r b =
      if r.held.length = 295 ∨ r.held.length = 583 then
        if r.lastOctet b = Config.alignmentWord then ({ r with held := r.held ++ [b] }, .going)
        else (r.failCandidate, .failed (r.held ++ [b]).tail)
      else if r.held.length = 303 ∨ r.held.length = 591 then
        if serviceCount (r.lastOctet b) = c.frameCount + 1#2 then
          if r.held.length = 303 then
            ({ r with held := r.held ++ [b], candidate := some ⟨serviceCount (r.lastOctet b), 1⟩ }, .going)
          else ({ r with held := r.held ++ [b] }, .aligned)
        else (r.failCandidate, .failed (r.held ++ [b]).tail)
      else ({ r with held := r.held ++ [b] }, .going) := by
  have tested : huntBit r b = checkPointBit r c b := by
    unfold huntBit
    rw [check]
    dsimp only
    rw [candidate]
  rw [tested]
  unfold checkPointBit Lrx.lastOctet
  dsimp only
  have octet : r.held.length ≥ 7 → (r.held ++ [b]).drop ((r.held ++ [b]).length - 8) = r.held.drop (r.held.length - 7) ++ [b] := by
    intro long
    rw [List.length_append, List.length_singleton, List.drop_append_of_le_length (by omega)]
    congr 2
  have length : (r.held ++ [b]).length = r.held.length + 1 := by simp
  by_cases word : r.held.length = 295 ∨ r.held.length = 583
  · rw [octet (by omega), length, if_pos (by omega), if_pos word]
    rfl
  · rw [if_neg (by omega), if_neg word]
    by_cases count : r.held.length = 303 ∨ r.held.length = 591
    · rw [octet (by omega), length, if_pos (by omega), if_pos count]
      by_cases first : r.held.length = 303
      · rw [if_pos first, if_pos (show r.held.length + 1 = 304 by omega)]
        rfl
      · rw [if_neg first, if_neg (show ¬ r.held.length + 1 = 304 by omega)]
        rfl
    · rw [if_neg (by omega), if_neg count]

/-! ### One line bit -/

/-- The receiver as the search timer counts a bit of the hunt (R2, R8). -/
def Lrx.timed (r : Lrx) : Lrx := { r with edgeWatch := 0, searchBits := bump 4608 r.searchBits }

/-- The line is in SEARCH or CHECK. -/
def Lrx.Hunting (r : Lrx) : Prop := r.align = .search ∨ r.align = .check

theorem lineBit_eq {l : LineNo} {s : State} (hunting : (s.line l).lrx.Hunting) (b : Bool) :
    lineBit l s b =
      let h := huntBits (huntFuel (s.line l).lrx) (s.line l).lrx.timed [b]
      if h.2 = true then enterAligned l (s.onLrx l fun _ => h.1)
      else if h.1.failed = 8 ∨ h.1.searchBits = 4608 then raise .lof l (s.onLrx l fun _ => h.1)
      else s.onLrx l fun _ => h.1 := by
  unfold lineBit
  dsimp only
  exact if_pos hunting

/-- A fuel for more than one step. -/
theorem huntFuel_eq (r : Lrx) : ∃ n, huntFuel r = n + 4 := ⟨r.held.length * r.held.length + 4 * r.held.length, by unfold huntFuel; ring⟩

theorem lineBit_going {l : LineNo} {s : State} (hunting : (s.line l).lrx.Hunting) {b : Bool} {r : Lrx}
    (going : huntBit (s.line l).lrx.timed b = (r, .going)) :
    lineBit l s b = if r.failed = 8 ∨ r.searchBits = 4608 then raise .lof l (s.onLrx l fun _ => r) else s.onLrx l fun _ => r := by
  obtain ⟨n, fuel⟩ := huntFuel_eq (s.line l).lrx
  have one : huntBits (huntFuel (s.line l).lrx) (s.line l).lrx.timed [b] = (r, false) := by
    rw [fuel, huntBits, going]
    rfl
  rw [lineBit_eq hunting, one]
  rfl

theorem raise_lof_of_live {l : LineNo} {s : State} (live : (s.line l).lrx.lof = true) : raise .lof l s = s :=
  (raise_spec .lof l s).2.2.1 live

/-- A bit of the hunt that ends no candidate, where LOF is live or neither of its two causes stands. -/
theorem lineBit_silent {l : LineNo} {s : State} (hunting : (s.line l).lrx.Hunting) {b : Bool} {r : Lrx}
    (going : huntBit (s.line l).lrx.timed b = (r, .going)) (lof : r.lof = (s.line l).lrx.lof)
    (silent : (s.line l).lrx.lof = true ∨ (r.failed < 8 ∧ r.searchBits < 4608)) :
    lineBit l s b = s.onLrx l fun _ => r := by
  rw [lineBit_going hunting going]
  split
  · next cause =>
    refine raise_lof_of_live ?_
    rw [State.onLrx_line]
    exact lof.trans (silent.resolve_right (by omega))
  · rfl

/-! ### A line that is not otherwise qualified -/

/-- Judging a line that was not and is not otherwise qualified changes nothing. -/
theorem rejudge_still {l : LineNo} {s : State} (was : (s.line l).mon.otherwise = false)
    (out : qualifies (s.lineSetup l) (s.line l) = false) : rejudge l s = s := by
  obtain ⟨line, others, selection, rest⟩ := rejudge_spec l s
  rw [if_neg (fun h => absurd (was.symm.trans h.1) (by decide)), Prod.mk.injEq] at selection
  obtain ⟨selected, lost⟩ := selection
  have lines : (rejudge l s).lines = s.lines := by
    refine State.lines_ext _ _ fun m => ?_
    by_cases e : m = l
    · subst e
      rw [line, (judge_spec _ _ _).2.1 (was.trans out.symm)]
    · exact others m e
  rw [← lines, ← selected, ← lost] at rest
  exact rest

/-- LOF asserted on a line that is not otherwise qualified. -/
theorem raise_lof_of_out {l : LineNo} {s : State} (lof : (s.line l).lrx.lof = false) (was : (s.line l).mon.otherwise = false)
    (out : (s.line l).lrx.align ≠ .aligned) :
    raise .lof l s = s.setLine l { s.line l with
      lrx := { (s.line l).lrx with lof := true }
      mon := { (s.line l).mon with latched := { (s.line l).mon.latched with lof := true } } } := by
  have set : ∀ x : Line, x.mon.otherwise = false → x.lrx.align ≠ .aligned → rejudge l (s.setLine l x) = s.setLine l x :=
    fun x was out => rejudge_still (by rw [State.setLine_line]; exact was)
      (qualifies_of_not_aligned _ (by rw [State.setLine_line]; exact out))
  unfold raise
  rw [if_neg (by simp [Line.live, lof])]
  exact set _ was out

/-- A bit of the hunt that ends no candidate, as the clockwork brings it: it is counted, and at the timer's sixteenth period LOF is
asserted and latched (R8). -/
theorem lineBit_counted {l : LineNo} {s : State} {r : Lrx} {b : Bool} (hunting : (s.line l).lrx.Hunting)
    (going : huntBit (s.line l).lrx.timed b = ({ r with edgeWatch := 0, searchBits := bump 4608 (s.line l).lrx.searchBits }, .going))
    (lof : r.lof = (s.line l).lrx.lof) (failed : r.failed < 8) (still : r.Hunting) (was : (s.line l).mon.otherwise = false)
    (within : (s.line l).lrx.searchBits ≤ 4608) :
    (lineBit l s b).line l = (s.line l).counted r ∧ OnlyLine l s (lineBit l s b) := by
  have count : bump 4608 (s.line l).lrx.searchBits = min 4608 ((s.line l).lrx.searchBits + 1) := bump_spec _ _ within
  have out : r.align ≠ .aligned := fun h => by
    obtain e | e := still <;> rw [e] at h <;> exact Align.noConfusion h
  rw [count] at going
  rw [lineBit_going hunting going]
  by_cases expires : 4608 ≤ (s.line l).lrx.searchBits + 1
  · rw [if_pos (Or.inr (Nat.min_eq_left expires))]
    cases live : (s.line l).lrx.lof with
    | true =>
      rw [raise_lof_of_live (by rw [State.onLrx_line]; exact lof.trans live)]
      refine ⟨?_, onlyLine_onLrx s l _⟩
      rw [State.onLrx_line]
      unfold Line.counted
      simp [live, lof]
    | false =>
      have asserted := raise_lof_of_out (l := l) (s := s.onLrx l fun _ => { r with
        edgeWatch := 0, searchBits := min 4608 ((s.line l).lrx.searchBits + 1) }) (by rw [State.onLrx_line]; exact lof.trans live)
        (by rw [State.onLrx_line]; exact was) (by rw [State.onLrx_line]; exact out)
      rw [asserted]
      refine ⟨?_, (onlyLine_onLrx s l _).trans (onlyLine_setLine _ l _)⟩
      rw [State.setLine_line, State.onLrx_line]
      unfold Line.counted
      simp [live, expires]
  · rw [if_neg (by dsimp only; omega)]
    refine ⟨?_, onlyLine_onLrx s l _⟩
    rw [State.onLrx_line]
    unfold Line.counted
    simp [lof, expires]

/-! ### Bits that end no candidate and assert no LOF -/

/-- The receiver after a bit of the hunt. -/
def Lrx.hunted (r : Lrx) (b : Bool) : Lrx := (huntBit r.timed b).1

theorem huntBit_search {r : Lrx} (search : r.align = .search) (b : Bool) :
    ∃ r', huntBit r b = (r', .going) ∧ r'.lof = r.lof ∧ r'.failed = r.failed ∧ r'.searchBits = r.searchBits ∧ r'.Hunting := by
  by_cases empty : r.held = []
  · rw [huntBit_scan search empty]
    exact ⟨_, rfl, by split <;> rfl, by split <;> rfl, by split <;> rfl, .inl (by split <;> exact search)⟩
  · rw [huntBit_service search empty]
    refine ⟨_, rfl, by split <;> rfl, by split <;> rfl, by split <;> rfl, ?_⟩
    split
    · exact .inr rfl
    · exact .inl search

/-- Bits of a line that scans, or reads the candidate's service octet, at each of which LOF is live or neither of its causes comes. -/
theorem lineBits_silent (l : LineNo) (bits : List Bool) (s : State)
    (search : ∀ k < bits.length, ((bits.take k).foldl Lrx.hunted (s.line l).lrx).align = .search)
    (silent : (s.line l).lrx.lof = true ∨ ((s.line l).lrx.failed < 8 ∧ (s.line l).lrx.searchBits + bits.length < 4608)) :
    lineBits l bits s = s.onLrx l fun r => bits.foldl Lrx.hunted r := by
  induction bits generalizing s with
  | nil => exact (State.onLrx_self s l).symm
  | cons b bits ih =>
    have here : (s.line l).lrx.align = .search := search 0 (by simp)
    obtain ⟨r, going, lof, failed, count, -⟩ := huntBit_search (r := (s.line l).lrx.timed) here b
    have after : (s.line l).lrx.hunted b = r := congrArg Prod.fst going
    have timed : r.searchBits ≤ (s.line l).lrx.searchBits + 1 := by
      rw [count]
      change bump _ _ ≤ _
      unfold bump
      split <;> omega
    simp only [List.length_cons] at silent
    have first : lineBit l s b = s.onLrx l fun r => r.hunted b := by
      rw [lineBit_silent (.inl here) going lof (silent.imp_right fun ⟨few, more⟩ => ⟨failed ▸ few, by omega⟩), ← after]
      simp only [State.onLrx]
    change lineBits l bits (lineBit l s b) = _
    rw [first, ih, State.onLrx_onLrx]
    · rfl
    · intro k h
      rw [State.onLrx_line]
      exact search (k + 1) (by simpa using h)
    · rw [State.onLrx_line]
      change ((s.line l).lrx.hunted b).lof = true ∨ ((s.line l).lrx.hunted b).failed < 8 ∧ ((s.line l).lrx.hunted b).searchBits + _ < _
      rw [after, lof, failed]
      exact silent.imp_right fun ⟨few, more⟩ => ⟨few, by omega⟩

/-! ### The scan (R4) -/

/-- The scan window after more bits: the latest eight. -/
def scanWindow (scan bits : List Bool) : List Bool := (scan ++ bits).drop (scan.length + bits.length - 8)

/-- The window of bits that come in two parts. -/
theorem scanWindow_append (scan init : List Bool) (b : Bool) :
    (scanWindow scan init ++ [b]).drop ((scanWindow scan init).length + 1 - 8) = scanWindow scan (init ++ [b]) := by
  unfold scanWindow
  rw [← List.append_assoc, List.length_append, List.length_singleton, ← Nat.add_assoc, ← List.length_append]
  generalize scan ++ init = w
  rw [List.length_drop]
  by_cases long : 8 ≤ w.length
  · rw [← List.drop_append_of_le_length (by omega), List.drop_drop]
    congr 1
    omega
  · rw [Nat.sub_eq_zero_of_le (show w.length ≤ 8 by omega), List.drop_zero, Nat.sub_eq_zero_of_le (by omega),
      Nat.sub_eq_zero_of_le (by omega)]

/-- The receiver after bits scanned without a match. -/
def Lrx.scanned (r : Lrx) (bits : List Bool) : Lrx := { r with
  scan := scanWindow r.scan bits, edgeWatch := if bits = [] then r.edgeWatch else 0
  searchBits := if r.searchBits < 4608 then min 4608 (r.searchBits + bits.length) else r.searchBits }

theorem Lrx.scanned_nil {r : Lrx} (short : r.scan.length ≤ 8) : r.scanned [] = r := by
  have window : scanWindow r.scan [] = r.scan := by
    unfold scanWindow
    rw [List.append_nil, List.length_nil, Nat.add_zero, Nat.sub_eq_zero_of_le short, List.drop_zero]
  have count : (if r.searchBits < 4608 then min 4608 (r.searchBits + 0) else r.searchBits) = r.searchBits := by
    split <;> omega
  unfold Lrx.scanned
  rw [window, if_pos rfl, List.length_nil, count]

/-- The timer's count after one more bit. -/
theorem bump_timer (n k : Nat) : bump 4608 (if n < 4608 then min 4608 (n + k) else n)
    = if n < 4608 then min 4608 (n + (k + 1)) else n := by
  by_cases small : n < 4608
  · rw [if_pos small, if_pos small]
    exact (bump_spec _ _ (by omega)).trans (by omega)
  · rw [if_neg small, if_neg small]
    exact if_neg small

/-- One more bit scanned, hit or miss. -/
theorem hunted_scanned {r : Lrx} (search : r.align = .search) (empty : r.held = []) (init : List Bool) (b : Bool) :
    (r.scanned init).hunted b = if scanWindow r.scan (init ++ [b]) = octetBits 0x6B#8
      then { r.scanned (init ++ [b]) with scan := [], held := octetBits 0x6B#8 } else r.scanned (init ++ [b]) := by
  unfold Lrx.hunted
  rw [huntBit_scan (r := (r.scanned init).timed) search empty]
  dsimp only
  change (if (scanWindow r.scan init ++ [b]).drop ((scanWindow r.scan init).length + 1 - 8) = octetBits 0x6B#8 then _ else _) = _
  have timed : (r.scanned init).timed = { r.scanned (init ++ [b]) with scan := scanWindow r.scan init } := by
    unfold Lrx.timed Lrx.scanned
    dsimp only
    rw [bump_timer, List.length_append, List.length_singleton, if_neg (show ¬ init ++ [b] = [] by simp)]
  rw [scanWindow_append, timed]
  split
  · rfl
  · change { r.scanned (init ++ [b]) with
      scan := (scanWindow r.scan init ++ [b]).drop ((scanWindow r.scan init).length + 1 - 8) } = _
    rw [scanWindow_append]
    rfl

theorem foldl_hunted_scan {r : Lrx} (search : r.align = .search) (empty : r.held = []) (short : r.scan.length ≤ 8) (bits : List Bool)
    (misses : ∀ k, 0 < k → k ≤ bits.length → scanWindow r.scan (bits.take k) ≠ octetBits 0x6B#8) :
    bits.foldl Lrx.hunted r = r.scanned bits := by
  induction bits using List.reverseRecOn with
  | nil => exact (Lrx.scanned_nil short).symm
  | append_singleton init b ih =>
    have miss : scanWindow r.scan (init ++ [b]) ≠ octetBits 0x6B#8 := by
      have := misses (init.length + 1) (by omega) (by simp)
      rwa [List.take_of_length_le (by simp)] at this
    rw [List.foldl_append, ih fun k pos le => ?_, List.foldl_cons, List.foldl_nil, hunted_scanned search empty, if_neg miss]
    have := misses k pos (by simp; omega)
    rwa [List.take_append_of_le_length le] at this

/-! ### The candidate's service octet (R4) -/

/-- Bits of the service octet before its last. -/
theorem foldl_hunted_service {r : Lrx} (search : r.align = .search) (taken : r.held ≠ []) (bits : List Bool)
    (few : r.held.length + bits.length ≤ 15) :
    ∃ e n, bits.foldl Lrx.hunted r = { r with held := r.held ++ bits, edgeWatch := e, searchBits := n } := by
  induction bits using List.reverseRecOn with
  | nil => exact ⟨r.edgeWatch, r.searchBits, by simp⟩
  | append_singleton init b ih =>
    rw [List.length_append, List.length_singleton] at few
    obtain ⟨e, n, held⟩ := ih (by omega)
    rw [List.foldl_append, held, List.foldl_cons, List.foldl_nil]
    have next := huntBit_service (r := Lrx.timed { r with held := r.held ++ init, edgeWatch := e, searchBits := n }) search
      (by simp [Lrx.timed, taken]) b
    refine ⟨0, bump 4608 n, ?_⟩
    unfold Lrx.hunted
    rw [next, if_neg (by simp [Lrx.timed]; omega)]
    simp [Lrx.timed]

/-! ### The commands of the hunt -/

theorem exec_candidateTaken {l : LineNo} {s : State} (runs : s.running = true) (search : (s.line l).lrx.align = .search)
    (empty : (s.line l).lrx.held = []) (bits : List Bool) : exec (.candidateTaken l bits) s = .next (lineBits l bits s) :=
  congrArg Host.Outcome.next (if_pos (by simp [inScan, runs, search, empty]))

/-- Settles O9: `lineBits_silent` with `foldl_hunted_scan`, and `lineBit_counted` for one bit. -/
theorem candidateTakenAtFirstMatch : Obligations.CandidateTakenAtFirstMatch := by
  intro l bits s runs search empty short
  refine ⟨fun some silent misses => ?_, fun was failed within b w window => ⟨_, exec_candidateTaken runs search empty [b], ?_⟩⟩
  · obtain rfl | ⟨init, b, rfl⟩ := List.eq_nil_or_concat' bits
    · exact absurd rfl some
    rw [List.length_append, List.length_singleton] at silent misses
    have missed : ∀ k, 0 < k → k ≤ init.length → scanWindow (s.line l).lrx.scan (init.take k) ≠ octetBits 0x6B#8 := fun k pos le => by
      have := misses k pos (by omega)
      rw [List.take_append_of_le_length le] at this
      unfold scanWindow
      rwa [List.length_take, Nat.min_eq_left le]
    have scanned : ∀ k ≤ init.length, (init.take k).foldl Lrx.hunted (s.line l).lrx = (s.line l).lrx.scanned (init.take k) :=
      fun k le => foldl_hunted_scan search empty short _ fun j pos small => by
        rw [List.length_take] at small
        rw [List.take_take, Nat.min_eq_left (by omega)]
        exact missed j pos (by omega)
    have folded := lineBits_silent l (init ++ [b]) s (fun k small => by
      rw [List.length_append, List.length_singleton] at small
      rw [List.take_append_of_le_length (by omega), scanned k (by omega)]
      exact search) (by rwa [List.length_append, List.length_singleton])
    have last : (init ++ [b]).foldl Lrx.hunted (s.line l).lrx = ((s.line l).lrx.scanned init).hunted b := by
      rw [List.foldl_append, List.foldl_cons, List.foldl_nil, ← List.take_length (l := init), scanned _ (Nat.le_refl _),
        List.take_length]
    have taken : (lineBits l (init ++ [b]) s).line l = { s.line l with lrx := ((s.line l).lrx.scanned init).hunted b } := by
      rw [folded, State.onLrx_line, last]
    have only : OnlyLine l s (lineBits l (init ++ [b]) s) := by
      rw [folded]
      exact onlyLine_onLrx s l _
    refine ⟨fun hit => ⟨_, exec_candidateTaken runs search empty _, ?_, only⟩,
      fun miss => ⟨_, exec_candidateTaken runs search empty _, ?_, only⟩⟩
    · rw [taken, hunted_scanned search empty, if_pos (c := scanWindow _ _ = _) hit]
      unfold Lrx.scanned
      rw [if_neg some]
    · rw [taken, hunted_scanned search empty, if_neg (c := scanWindow _ _ = _) miss]
      unfold Lrx.scanned
      rw [if_neg some]
      rfl
  · have going := huntBit_scan (r := (s.line l).lrx.timed) search empty b
    have found : huntBit (s.line l).lrx.timed b = ({ ({ (s.line l).lrx with
        scan := if w = octetBits 0x6B#8 then [] else w, held := if w = octetBits 0x6B#8 then w else [] } : Lrx) with
        edgeWatch := 0, searchBits := bump 4608 (s.line l).lrx.searchBits }, .going) := by
      rw [going, window]
      split
      · next hit =>
        have hit : List.drop ((s.line l).lrx.scan.length + 1 - 8) ((s.line l).lrx.scan ++ [b]) = octetBits 0x6B#8 := hit
        rw [if_pos hit, if_pos hit, hit]
        rfl
      · next miss =>
        have miss : List.drop ((s.line l).lrx.scan.length + 1 - 8) ((s.line l).lrx.scan ++ [b]) ≠ octetBits 0x6B#8 := miss
        rw [if_neg miss, if_neg miss, ← empty]
        rfl
    exact lineBit_counted (.inl search) found rfl failed (.inl search) was within

theorem exec_candidateServiceOctet {l : LineNo} {s : State} (runs : s.running = true) (search : (s.line l).lrx.align = .search)
    (taken : (s.line l).lrx.held ≠ []) (bits : List Bool) : exec (.candidateServiceOctet l bits) s = .next (lineBits l bits s) :=
  congrArg Host.Outcome.next (if_pos (by simp [inService, runs, search, taken]))

theorem serviceCount_eq (o : Octet) : serviceCount o = BitVec.ofNat 2 (o.toNat / 2) := by
  apply BitVec.eq_of_toNat_eq
  simp [serviceCount, BitVec.extractLsb'_toNat, Nat.shiftRight_eq_div_pow]

/-- Settles O10: `lineBits_silent` with `foldl_hunted_service`, and `lineBit_counted` for one bit. -/
theorem candidateServiceOctetEntersCheck : Obligations.CandidateServiceOctetEntersCheck := by
  intro l o s runs search
  refine ⟨fun eight silent => ?_, fun was failed within long short b => ?_⟩
  · have taken : (s.line l).lrx.held ≠ [] := fun h => by simp [h] at eight
    obtain ⟨init, b, split⟩ : ∃ init b, octetBits o = init ++ [b] :=
      ⟨(octetBits o).dropLast, o.getLsbD 7, rfl⟩
    have seven : init.length = 7 := by
      have := congrArg List.length split
      rw [octetBits_length, List.length_append, List.length_singleton] at this
      omega
    refine ⟨_, exec_candidateServiceOctet runs search taken _, ?_⟩
    have served : ∀ k ≤ 7, ∃ e n, (init.take k).foldl Lrx.hunted (s.line l).lrx
        = { (s.line l).lrx with held := (s.line l).lrx.held ++ init.take k, edgeWatch := e, searchBits := n } := fun k le =>
      foldl_hunted_service search taken _ (by rw [List.length_take]; omega)
    rw [lineBits_silent l (octetBits o) s (fun k small => ?_) (by rwa [octetBits_length])]
    · obtain ⟨e, n, held⟩ := served 7 (Nat.le_refl _)
      rw [List.take_of_length_le (by omega)] at held
      have next := huntBit_service
        (r := Lrx.timed { (s.line l).lrx with held := (s.line l).lrx.held ++ init, edgeWatch := e, searchBits := n }) search
        (by simp [Lrx.timed, taken]) b
      rw [if_pos (by simp [Lrx.timed]; omega)] at next
      have last : (octetBits o).foldl Lrx.hunted (s.line l).lrx = { (s.line l).lrx with
          align := .check, held := (s.line l).lrx.held ++ octetBits o, candidate := some ⟨serviceCount o, 0⟩
          edgeWatch := 0, searchBits := bump 4608 n } := by
        rw [split, List.foldl_append, held, List.foldl_cons, List.foldl_nil, Lrx.hunted, next]
        have octet : bitsOctet (((s.line l).lrx.held ++ init).drop 8 ++ [b]) = o := by
          rw [← eight, List.drop_left, ← split, bitsOctet_octetBits]
        simp only [Lrx.timed, octet, List.append_assoc]
      dsimp only
      rw [State.onLrx_line, last, serviceCount_eq]
      exact ⟨rfl, rfl, rfl, rfl, rfl, rfl, rfl, rfl, onlyLine_onLrx s l _⟩
    · rw [octetBits_length] at small
      obtain ⟨e, n, held⟩ := served k (by omega)
      rw [split, List.take_append_of_le_length (by omega), held]
      exact search
  · have taken : (s.line l).lrx.held ≠ [] := fun h => by simp [h] at long
    refine ⟨_, exec_candidateServiceOctet runs search taken [b], ?_⟩
    have going := huntBit_service (r := (s.line l).lrx.timed) search taken b
    rw [serviceCount_eq] at going
    by_cases eighth : (s.line l).lrx.held.length = 15
    · rw [if_pos (show (s.line l).lrx.timed.held.length = 15 from eighth)] at going
      rw [if_pos eighth]
      exact lineBit_counted (.inl search) going rfl failed (.inr rfl) was within
    · rw [if_neg (show ¬ (s.line l).lrx.timed.held.length = 15 from eighth)] at going
      rw [if_neg eighth]
      exact lineBit_counted (.inl search) going rfl failed (.inl search) was within

theorem exec_confirmationPoint {l : LineNo} {s : State} (runs : s.running = true) (check : (s.line l).lrx.align = .check) (b : Bool) :
    exec (.confirmationPoint l [b]) s = .next (lineBit l s b) :=
  congrArg Host.Outcome.next (if_pos (by simp [inCheck, runs, check]))

/-! ### The entry to ALIGNED (R5, R8, R20, R21, R27) -/

theorem release_lof_line (l : LineNo) (s : State) :
    (release .lof l s).line l = { s.line l with lrx := { (s.line l).lrx with lof := false }, mon := ((release .lof l s).line l).mon } := by
  unfold release
  split
  · exact (rejudge_line l _).trans (by rw [State.setLine_line]; rfl)
  · next gone =>
    have gone : (s.line l).lrx.lof = false := by simpa [Line.live] using gone
    rw [← gone]

theorem enterAligned_spec (l : LineNo) (s : State) :
    (enterAligned l s).line l = { s.line l with
        lrx := { (s.line l).lrx.enterAligned with grade := 6, lof := false }, store := (s.line l).store.enterAligned
        mon := ((enterAligned l s).line l).mon }
      ∧ ((enterAligned l s).line l).mon.otherwise = false := by
  have line : (enterAligned l s).line l = { s.line l with
      lrx := { (s.line l).lrx.enterAligned with grade := 6, lof := false }, store := (s.line l).store.enterAligned
      mon := ((enterAligned l s).line l).mon } := by
    refine (rejudge_line l _).trans ?_
    rw [release_lof_line, State.onStore_line, (acceptGrade_line l 6 _).1, State.onLrx_line]
    rfl
  refine ⟨line, (rejudge_sound l _).trans ?_⟩
  change qualifies _ ((enterAligned l s).line l) = false
  rw [line]
  simp [qualifies]

theorem cellBoundary_val (w : Fin 288) :
    (cellBoundary w).val = if w.val % 36 = 0 then w.val else (36 * (w.val / 36 + 1)) % 288 := by
  unfold cellBoundary
  split
  · rfl
  · change (w.val / 36 + 1) * 36 % 288 = _
    rw [Nat.mul_comm]

/-- Settles O11: the bits by `huntBit_check`, the entry by `enterAligned_spec`. -/
theorem confirmationsLeadToAligned : Obligations.ConfirmationsLeadToAligned := by
  intro l b c s
  refine ⟨fun runs check candidate held good silent => ⟨_, exec_confirmationPoint runs check b, ?_⟩,
    fun runs check candidate held good => ⟨_, exec_confirmationPoint runs check b, ?_⟩,
    fun runs check candidate was failed within no303 no591 word => ⟨_, exec_confirmationPoint runs check b, ?_⟩⟩
  · have going := huntBit_check (r := (s.line l).lrx.timed) check candidate b
    have length : (s.line l).lrx.timed.held.length = 303 := held
    have octet : serviceCount ((s.line l).lrx.timed.lastOctet b) = c.frameCount + 1#2 := by
      unfold Lrx.lastOctet
      rw [length]
      exact good
    rw [if_neg (by omega), if_pos (Or.inl length), if_pos octet, if_pos length, octet] at going
    rw [lineBit_silent (.inr check) going rfl (silent.imp_right fun ⟨few, more⟩ => ⟨few, ?_⟩)]
    · dsimp only
      rw [State.onLrx_line]
      exact ⟨check, rfl, rfl, rfl, rfl, rfl, rfl, rfl, onlyLine_onLrx s l _⟩
    · change bump 4608 (s.line l).lrx.searchBits < 4608
      unfold bump
      split <;> omega
  · have done := huntBit_check (r := (s.line l).lrx.timed) check candidate b
    have length : (s.line l).lrx.timed.held.length = 591 := held
    have octet : serviceCount ((s.line l).lrx.timed.lastOctet b) = c.frameCount + 1#2 := by
      unfold Lrx.lastOctet
      rw [length]
      exact good
    rw [if_neg (by omega), if_pos (Or.inr length), if_pos octet, if_neg (by omega)] at done
    obtain ⟨n, fuel⟩ := huntFuel_eq (s.line l).lrx
    have one : huntBits (huntFuel (s.line l).lrx) (s.line l).lrx.timed [b]
        = ({ (s.line l).lrx.timed with held := (s.line l).lrx.held ++ [b] }, true) := by
      rw [fuel, huntBits, done]
      rfl
    rw [lineBit_eq (.inr check), one]
    dsimp only
    rw [if_pos rfl]
    have only := (onlyLine_onLrx s l fun _ => { (s.line l).lrx.timed with held := (s.line l).lrx.held ++ [b] }).selection.trans
      (enterAligned_frame l _)
    obtain ⟨line, out⟩ := enterAligned_spec l (s.onLrx l fun _ => { (s.line l).lrx.timed with held := (s.line l).lrx.held ++ [b] })
    rw [State.onLrx_line] at line
    generalize enterAligned l _ = t at *
    have w := cellBoundary_val (s.line l).store.w
    have lrx := (congrArg Line.lrx line :)
    have store := (congrArg Line.store line :)
    rw [lrx, store]
    refine ⟨rfl, rfl, rfl, rfl, rfl, rfl, rfl, rfl, rfl, rfl, rfl, rfl, rfl, rfl, rfl, ?_, w, fun k => ?_, rfl, rfl,
      (congrArg Line.framer line :), out, only⟩
    · have := (s.line l).store.w.isLt
      change (cellBoundary _).val % 36 = 0
      rw [w]
      split <;> omega
    · change (Vector.replicate 8 false).get k = false
      exact Vector.getElem_replicate ..
  · have going := huntBit_check (r := (s.line l).lrx.timed) check candidate b
    have length : (s.line l).lrx.timed.held.length = (s.line l).lrx.held.length := rfl
    have keeps : huntBit (s.line l).lrx.timed b = ({ (s.line l).lrx.timed with held := (s.line l).lrx.held ++ [b] }, .going) := by
      rw [going, length]
      split
      · next at_ => exact if_pos (word at_)
      · exact if_neg (by omega)
    exact lineBit_counted (.inr check) keeps rfl failed (.inr check) was within

/-! ### The hunt over many bits (R6) -/

/-- What bits of the hunt can do to the receiver. -/
def Lrx.HuntsTo (r r' : Lrx) : Prop :=
  r'.Hunting ∧ r.failed ≤ r'.failed
    ∧ r' = { r with align := r'.align, scan := r'.scan, held := r'.held, candidate := r'.candidate, failed := r'.failed }

theorem Lrx.HuntsTo.trans {r r' r'' : Lrx} (first : r.HuntsTo r') (second : r'.HuntsTo r'') : r.HuntsTo r'' := by
  obtain ⟨-, more, eq⟩ := first
  obtain ⟨hunting, more', eq'⟩ := second
  exact ⟨hunting, Nat.le_trans more more', by rw [eq', eq]⟩

theorem Lrx.huntsTo_failCandidate (r : Lrx) : r.HuntsTo r.failCandidate :=
  ⟨.inl rfl, by change r.failed ≤ bump 8 r.failed; unfold bump; split <;> omega, rfl⟩

/-- All that a bit of the hunt can bring about: the hunt goes on, the candidate fails and the bits behind its first are left, or the
second confirmation passes at the 592nd bit held. -/
theorem huntBit_spec {r : Lrx} (hunting : r.Hunting) (b : Bool) :
    (∃ r', huntBit r b = (r', .going) ∧ r.HuntsTo r' ∧ r'.held.length + r'.scan.length ≤ r.held.length + r.scan.length + 1)
      ∨ (∃ again, huntBit r b = (r.failCandidate, .failed again) ∧ again.length = r.held.length)
      ∨ (huntBit r b = ({ r with held := r.held ++ [b] }, .aligned) ∧ r.held.length = 591) := by
  have joined : (r.held ++ [b]).length + r.scan.length ≤ r.held.length + r.scan.length + 1 := by
    rw [List.length_append, List.length_singleton]
    omega
  have again : ((r.held ++ [b]).tail).length = r.held.length := by simp
  obtain search | check := hunting
  · left
    by_cases empty : r.held = []
    · rw [huntBit_scan search empty]
      refine ⟨_, rfl, ?_⟩
      split
      · next hit =>
        have long := congrArg List.length hit
        rw [octetBits_length, List.length_drop, List.length_append, List.length_singleton] at long
        refine ⟨⟨.inl search, Nat.le_refl _, rfl⟩, ?_⟩
        change (octetBits Config.alignmentWord).length + 0 ≤ _
        rw [octetBits_length]
        omega
      · refine ⟨⟨.inl search, Nat.le_refl _, rfl⟩, ?_⟩
        change r.held.length + (List.drop _ _).length ≤ _
        rw [List.length_drop, List.length_append, List.length_singleton]
        omega
    · rw [huntBit_service search empty]
      refine ⟨_, rfl, ?_⟩
      split
      · exact ⟨⟨.inr rfl, Nat.le_refl _, rfl⟩, joined⟩
      · exact ⟨⟨.inl search, Nat.le_refl _, rfl⟩, joined⟩
  · obtain candidate | ⟨c, candidate⟩ := Option.eq_none_or_eq_some r.candidate
    · refine .inl ⟨r, ?_, ⟨.inr check, Nat.le_refl _, rfl⟩, by omega⟩
      unfold huntBit
      rw [check]
      dsimp only
      rw [candidate]
    · have keeps : r.HuntsTo { r with held := r.held ++ [b] } := ⟨.inr check, Nat.le_refl _, rfl⟩
      rw [huntBit_check check candidate]
      by_cases word : r.held.length = 295 ∨ r.held.length = 583
      · rw [if_pos word]
        split
        · exact .inl ⟨_, rfl, keeps, joined⟩
        · exact .inr (.inl ⟨_, rfl, again⟩)
      · rw [if_neg word]
        by_cases count : r.held.length = 303 ∨ r.held.length = 591
        · rw [if_pos count]
          split
          · split
            · exact .inl ⟨_, rfl, ⟨.inr check, Nat.le_refl _, rfl⟩, joined⟩
            · next second => exact .inr (.inr ⟨rfl, count.resolve_left second⟩)
          · exact .inr (.inl ⟨_, rfl, again⟩)
        · rw [if_neg count]
          exact .inl ⟨_, rfl, keeps, joined⟩

theorem huntBits_huntsTo (fuel : Nat) (r : Lrx) (bits : List Bool) (hunting : r.Hunting) : r.HuntsTo (huntBits fuel r bits).1 := by
  induction fuel generalizing r bits with
  | zero => exact ⟨hunting, Nat.le_refl _, rfl⟩
  | succ fuel ih =>
    cases bits with
    | nil => exact ⟨hunting, Nat.le_refl _, rfl⟩
    | cons b bits =>
      unfold huntBits
      obtain ⟨r', going, hunts, -⟩ | ⟨again, fails, -⟩ | ⟨done, -⟩ := huntBit_spec hunting b
      · rw [going]
        exact hunts.trans (ih r' bits hunts.1)
      · rw [fails]
        exact r.huntsTo_failCandidate.trans (ih _ _ (.inl rfl))
      · rw [done]
        exact ⟨hunting, Nat.le_refl _, rfl⟩

/-- Fewer than 592 bits in hand reach no second confirmation. -/
theorem huntBits_of_short (fuel : Nat) (r : Lrx) (bits : List Bool) (hunting : r.Hunting)
    (short : r.held.length + r.scan.length + bits.length ≤ 591) : (huntBits fuel r bits).2 = false := by
  induction fuel generalizing r bits with
  | zero => rfl
  | succ fuel ih =>
    cases bits with
    | nil => rfl
    | cons b bits =>
      rw [List.length_cons] at short
      unfold huntBits
      obtain ⟨r', going, hunts, held⟩ | ⟨again, fails, length⟩ | ⟨-, length⟩ := huntBit_spec hunting b
      · rw [going]
        exact ih r' bits hunts.1 (by omega)
      · rw [fails]
        refine ih _ _ (.inl rfl) ?_
        rw [List.length_append]
        change 0 + 0 + _ ≤ _
        omega
      · omega

/-- A fuel of the square of the bits in hand, and of those to come, is never used up: each failure leaves fewer bits in hand. -/
theorem huntBits_fuel (f g : Nat) (r : Lrx) (bits : List Bool) (hunting : r.Hunting) (n : Nat)
    (hand : r.held.length + r.scan.length + bits.length ≤ n) (enough : n * n + bits.length ≤ f) (enough' : n * n + bits.length ≤ g) :
    huntBits f r bits = huntBits g r bits := by
  induction f generalizing g r bits n with
  | zero =>
    obtain rfl : bits = [] := List.eq_nil_of_length_eq_zero (by omega)
    cases g <;> rfl
  | succ f ih =>
    cases bits with
    | nil => cases g <;> rfl
    | cons b bits =>
      rw [List.length_cons] at hand enough enough'
      obtain ⟨g, rfl⟩ : ∃ g', g = g' + 1 := ⟨g - 1, by omega⟩
      unfold huntBits
      obtain ⟨r', going, hunts, held⟩ | ⟨again, fails, length⟩ | ⟨done, -⟩ := huntBit_spec hunting b
      · rw [going]
        exact ih g r' bits hunts.1 n (by omega) (by omega) (by omega)
      · rw [fails]
        obtain ⟨m, rfl⟩ : ∃ m, n = m + 1 := ⟨n - 1, by omega⟩
        have square : (m + 1) * (m + 1) = m * m + 2 * m + 1 := by ring
        have total : (again ++ bits).length ≤ m := by
          rw [List.length_append]
          omega
        exact ih g _ _ (.inl rfl) m (by change 0 + 0 + _ ≤ _; omega) (by omega) (by omega)
      · rw [done]

theorem scanWindow_cons (scan bits : List Bool) (b : Bool) : scanWindow (scanWindow scan [b]) bits = scanWindow scan (b :: bits) := by
  unfold scanWindow
  have cons : scan ++ b :: bits = scan ++ [b] ++ bits := by simp
  rw [cons, List.length_drop, List.length_append, List.length_singleton, List.length_cons]
  have length : (scan ++ [b]).length = scan.length + 1 := by simp
  generalize scan ++ [b] = w at length
  rw [← length]
  by_cases long : 8 ≤ w.length
  · rw [← List.drop_append_of_le_length (by omega), List.drop_drop]
    congr 1
    omega
  · rw [Nat.sub_eq_zero_of_le (show w.length ≤ 8 by omega), List.drop_zero]
    congr 1
    omega

/-- A hunt over bits that hold no match only scans. -/
theorem huntBits_scan (fuel : Nat) (r : Lrx) (bits : List Bool) (search : r.align = .search) (empty : r.held = [])
    (short : r.scan.length ≤ 8) (enough : bits.length ≤ fuel)
    (misses : ∀ k, 0 < k → k ≤ bits.length → scanWindow r.scan (bits.take k) ≠ octetBits 0x6B#8) :
    huntBits fuel r bits = ({ r with scan := scanWindow r.scan bits }, false) := by
  have window : scanWindow r.scan [] = r.scan := congrArg Lrx.scan (Lrx.scanned_nil short)
  induction fuel generalizing r bits with
  | zero =>
    obtain rfl : bits = [] := List.eq_nil_of_length_eq_zero (by omega)
    rw [window]
    rfl
  | succ fuel ih =>
    cases bits with
    | nil =>
      rw [window]
      rfl
    | cons b bits =>
      rw [List.length_cons] at enough misses
      have miss : (r.scan ++ [b]).drop (r.scan.length + 1 - 8) ≠ octetBits Config.alignmentWord := misses 1 (by omega) (by omega)
      have going := huntBit_scan search empty b
      rw [if_neg miss] at going
      have length : (scanWindow r.scan [b]).length ≤ 8 := by
        unfold scanWindow
        rw [List.length_drop, List.length_append, List.length_singleton]
        omega
      unfold huntBits
      rw [going]
      refine (ih { r with scan := scanWindow r.scan [b] } bits search empty length (by omega) (fun k pos le => ?_)
        (congrArg Lrx.scan (Lrx.scanned_nil (r := { r with scan := scanWindow r.scan [b] }) length))).trans ?_
      · change scanWindow (scanWindow r.scan [b]) _ ≠ _
        rw [scanWindow_cons]
        exact misses (k + 1) (by omega) (by omega)
      · change ({ r with scan := scanWindow (scanWindow r.scan [b]) bits }, false) = _
        rw [scanWindow_cons]

/-- The failed test at a confirmation point: the hunt goes on in the bits behind the candidate's first (R6). -/
theorem huntBit_failed {r : Lrx} {c : Candidate} (check : r.align = .check) (candidate : r.candidate = some c) {b : Bool}
    (bad : ((r.held.length = 295 ∨ r.held.length = 583) ∧ r.lastOctet b ≠ 0x6B#8)
      ∨ ((r.held.length = 303 ∨ r.held.length = 591) ∧ serviceCount (r.lastOctet b) ≠ c.frameCount + 1#2)) :
    huntBit r b = (r.failCandidate, .failed (r.held ++ [b]).tail) := by
  rw [huntBit_check check candidate]
  obtain ⟨word, wrong⟩ | ⟨count, wrong⟩ := bad
  · rw [if_pos word]
    exact if_neg wrong
  · rw [if_neg (by omega), if_pos count, if_neg wrong]

/-- Windows of eight in a list, by the bits scanned up to each. -/
theorem scanWindow_nil_take {bits : List Bool} (none : ∀ k, (bits.drop k).take 8 ≠ octetBits 0x6B#8) (k : Nat) (le : k ≤ bits.length) :
    scanWindow [] (bits.take k) ≠ octetBits 0x6B#8 := by
  unfold scanWindow
  rw [List.nil_append, List.length_nil, Nat.zero_add, List.length_take, Nat.min_eq_left le]
  by_cases long : 8 ≤ k
  · rw [List.drop_take, show k - (k - 8) = 8 by omega]
    exact none (k - 8)
  · intro h
    have := congrArg List.length h
    rw [List.length_drop, List.length_take, octetBits_length] at this
    omega

/-- Settles O12: the failure by `huntBit_failed`, any fuel by `huntBits_fuel`, bits without a match by `huntBits_scan`. -/
theorem failedCandidateIsCounted : Obligations.FailedCandidateIsCounted := by
  intro l b c s runs check candidate few within bad
  refine ⟨_, exec_confirmationPoint runs check b, ?_⟩
  have only := lineBit_frame l s b
  have failed : bump 8 (s.line l).lrx.failed = min 8 ((s.line l).lrx.failed + 1) := bump_spec _ _ few
  have timed : bump 4608 (s.line l).lrx.searchBits = min 4608 ((s.line l).lrx.searchBits + 1) := bump_spec _ _ within
  have length : (s.line l).lrx.held.length ≤ 591 := by omega
  have behind : ((s.line l).lrx.held ++ [b]).tail.length = (s.line l).lrx.held.length := by simp
  have fails := huntBit_failed (r := (s.line l).lrx.timed) check candidate bad
  obtain ⟨r, back⟩ : ∃ r : Lrx, r = { (s.line l).lrx with
      align := .search, edgeWatch := 0, candidate := none, held := [], scan := []
      failed := min 8 ((s.line l).lrx.failed + 1), searchBits := min 4608 ((s.line l).lrx.searchBits + 1) } := ⟨_, rfl⟩
  have failing : (s.line l).lrx.timed.failCandidate = r := by
    rw [back, ← failed, ← timed]
    rfl
  have search : r.align = .search := by rw [back]
  have empty : r.held = [] := by rw [back]
  have scan : r.scan = [] := by rw [back]
  obtain ⟨fuel, more, hunt⟩ : ∃ fuel, (s.line l).lrx.held.length * (s.line l).lrx.held.length + (s.line l).lrx.held.length ≤ fuel
      ∧ huntBits (huntFuel (s.line l).lrx) (s.line l).lrx.timed [b] = huntBits fuel r ((s.line l).lrx.held ++ [b]).tail := by
    obtain ⟨n, eq⟩ : ∃ n, huntFuel (s.line l).lrx = n + 1
        ∧ (s.line l).lrx.held.length * (s.line l).lrx.held.length + (s.line l).lrx.held.length ≤ n :=
      ⟨(s.line l).lrx.held.length * (s.line l).lrx.held.length + 4 * (s.line l).lrx.held.length + 3,
        by unfold huntFuel; ring, by omega⟩
    refine ⟨n, eq.2, ?_⟩
    rw [eq.1, huntBits, fails, failing]
    exact congrArg (huntBits n r) (List.append_nil _)
  have short : r.held.length + r.scan.length + ((s.line l).lrx.held ++ [b]).tail.length ≤ (s.line l).lrx.held.length := by
    rw [empty, scan, behind]
    simp
  obtain ⟨again, same⟩ : ∃ again, huntBits fuel r ((s.line l).lrx.held ++ [b]).tail = again := ⟨_, rfl⟩
  have unaligned : again.2 = false := same ▸ huntBits_of_short fuel r _ (.inl search) (by omega)
  obtain ⟨hunting, kept, frame⟩ := same ▸ huntBits_huntsTo fuel r ((s.line l).lrx.held ++ [b]).tail (.inl search)
  have stands : again.1.lof = (s.line l).lrx.lof ∧ again.1.searchBits = min 4608 ((s.line l).lrx.searchBits + 1) := by
    rw [frame, back]
    exact ⟨rfl, rfl⟩
  have line : ((lineBit l s b).line l).lrx = { again.1 with
        lof := (s.line l).lrx.lof || decide (again.1.failed = 8) || decide ((s.line l).lrx.searchBits + 1 ≥ 4608) }
      ∧ ((lineBit l s b).line l).store = (s.line l).store ∧ ((lineBit l s b).line l).framer = (s.line l).framer := by
    rw [lineBit_eq (.inr check), hunt, same]
    dsimp only
    rw [unaligned, if_neg (by decide)]
    by_cases cause : again.1.failed = 8 ∨ again.1.searchBits = 4608
    · rw [if_pos cause, (raise_lof_line l _).1, State.onLrx_line]
      refine ⟨?_, rfl, rfl⟩
      have on : ((s.line l).lrx.lof || decide (again.1.failed = 8) || decide ((s.line l).lrx.searchBits + 1 ≥ 4608)) = true := by
        rw [stands.2] at cause
        obtain eight | expired := cause
        · simp [eight]
        · simp [show 4608 ≤ (s.line l).lrx.searchBits + 1 by omega]
      rw [on]
    · rw [if_neg cause, State.onLrx_line]
      refine ⟨?_, rfl, rfl⟩
      have off : ((s.line l).lrx.lof || decide (again.1.failed = 8) || decide ((s.line l).lrx.searchBits + 1 ≥ 4608)) = again.1.lof := by
        rw [stands.2] at cause
        rw [stands.1, decide_eq_false (fun h => cause (.inl h)), decide_eq_false (by omega), Bool.or_false, Bool.or_false]
      rw [off]
  obtain ⟨lrx, store, framer⟩ := line
  refine ⟨fun n other enough eq => ?_, by rw [lrx]; exact hunting, ?_, fun none => ?_, store, framer, only⟩
  · have independent : other = again := by
      rw [eq, ← same, ← back]
      refine huntBits_fuel n fuel r _ (.inl search) _ short ?_ (by rw [behind]; exact more)
      rw [behind]
      have := Nat.mul_le_mul length length
      omega
    rw [independent]
    exact ⟨unaligned, lrx⟩
  · rw [lrx]
    rw [back] at kept
    exact kept
  · have scanned := huntBits_scan fuel r ((s.line l).lrx.held ++ [b]).tail search empty (by rw [scan]; exact Nat.zero_le 8)
      (by rw [behind]; omega) (fun k _ le => by rw [scan]; exact scanWindow_nil_take none k le)
    rw [same] at scanned
    rw [lrx, scanned, back]
    refine ⟨rfl, rfl, rfl, ?_⟩
    change scanWindow [] ((s.line l).lrx.held ++ [b]).tail = _
    unfold scanWindow
    rw [List.nil_append, List.length_nil, Nat.zero_add, behind, ← List.drop_one, List.drop_drop]
    congr 1
    omega

/-! ### The search timer (R8) -/

/-- A line that hunts, or has reached ALIGNED. -/
def Lrx.Sought (r : Lrx) : Prop := r.align = .search ∨ r.align = .check ∨ r.align = .aligned

theorem lineBit_sought {l : LineNo} {s : State} (b : Bool) (sought : (s.line l).lrx.Sought) : ((lineBit l s b).line l).lrx.Sought := by
  by_cases hunting : (s.line l).lrx.Hunting
  · rw [lineBit_eq hunting]
    have stays := (huntBits_huntsTo (huntFuel (s.line l).lrx) (s.line l).lrx.timed [b] hunting).1
    have still : (huntBits (huntFuel (s.line l).lrx) (s.line l).lrx.timed [b]).1.Sought :=
      stays.imp_right .inl
    dsimp only
    split
    · rw [(enterAligned_spec l _).1]
      exact .inr (.inr rfl)
    · split
      · rw [(raise_lof_line l _).1, State.onLrx_line]
        exact still
      · rw [State.onLrx_line]
        exact still
  · have stays : lineBit l s b = s := if_neg hunting
    rw [stays]
    exact sought

theorem lineBits_sought (l : LineNo) (bits : List Bool) (s : State) (sought : (s.line l).lrx.Sought) :
    ((lineBits l bits s).line l).lrx.Sought := by
  induction bits generalizing s with
  | nil => exact sought
  | cons b bits ih => exact ih _ (lineBit_sought b sought)

/-- Settles O8: the bits by `lineBits_sought`, the expiry by `raise_lof_line` and, without bits, `raise_lof_of_out`. -/
theorem searchTimerExpiryAssertsLof : Obligations.SearchTimerExpiryAssertsLof := by
  intro l bits s runs hunting
  have hunts : ∀ u : State, u.running = true → (inHunt u l = true ↔ (u.line l).lrx.Hunting) := fun u runs => by
    simp [inHunt, runs, Lrx.Hunting]
  have expiry : ∀ bits, exec (.searchTimerExpiry l bits) s = .next (
      if inHunt (lineBits l bits s) l then
        raise .lof l ((lineBits l bits s).onLrx l fun r => { r with searchBits := Config.searchLimit })
      else lineBits l bits s) := fun bits => congrArg Host.Outcome.next (if_pos ((hunts s runs).mpr hunting))
  obtain ⟨t, run, only⟩ := execSearchTimerExpiry_frame l bits s
  refine ⟨⟨_, expiry bits, ?_⟩, fun was lof => ?_⟩
  · have sought := lineBits_sought l bits s (hunting.imp_right .inl)
    have running : (lineBits l bits s).running = true := (congrArg State.running (lineBits_frame l bits s).2 :).trans runs
    have frame : OnlyLineAndSelection l s _ := (Host.Outcome.next.inj (run.symm.trans (expiry bits))) ▸ only
    refine ⟨?_, ?_, frame⟩
    · by_cases still : inHunt (lineBits l bits s) l = true
      · rw [if_pos still, (raise_lof_line l _).1]
        exact fun _ => rfl
      · rw [if_neg still]
        exact fun h => absurd ((hunts _ running).mpr h) still
    · split
      · rw [(raise_lof_line l _).1, State.onLrx_line]
        exact sought
      · exact sought
  · have out : (s.line l).lrx.align ≠ .aligned := fun h => by
      obtain e | e := hunting <;> rw [e] at h <;> exact Align.noConfusion h
    refine ⟨_, (expiry []).trans (congrArg Host.Outcome.next (if_pos ((hunts s runs).mpr hunting))), ?_⟩
    dsimp only
    change _ = _ ∧ OnlyLine l s (raise .lof l (s.onLrx l fun r => { r with searchBits := Config.searchLimit }))
    rw [show lineBits l [] s = s from rfl, raise_lof_of_out (by rw [State.onLrx_line]; exact lof) (by rw [State.onLrx_line]; exact was)
      (by rw [State.onLrx_line]; exact out), State.setLine_line, State.onLrx_line]
    exact ⟨rfl, (onlyLine_onLrx s l _).trans (onlyLine_setLine _ l _)⟩

/-! ### The clock (R2, R3) -/

theorem alignedEvents_no_clock (l : LineNo) (k : Nat) (bits : List Bool) :
    .edgeWatchExpiry l ∉ alignedEvents l k bits ∧ ∀ b, .firstClockEdge l b ∉ alignedEvents l k bits := by
  unfold alignedEvents
  dsimp only
  split
  · simp
  · refine ⟨fun h => ?_, fun b h => ?_⟩
    all_goals
      simp only [List.mem_append] at h
      simp at h

theorem Lrx.watched_eq (r : Lrx) : r.watched = { r with
    edgeWatch := if r.align = .off ∨ r.align = .dark ∨ 3670 ≤ r.edgeWatch then r.edgeWatch else r.edgeWatch + 1 } := by
  unfold Lrx.watched bump
  by_cases silent : r.align = .off ∨ r.align = .dark
  · rw [if_pos silent, if_pos (by tauto)]
  · rw [if_neg silent]
    by_cases full : 3670 ≤ r.edgeWatch
    · rw [if_neg (show ¬ r.edgeWatch < Config.edgeWatchLimit from by change ¬ _ < 3670; omega), if_pos (by tauto)]
    · rw [if_pos (show r.edgeWatch < Config.edgeWatchLimit from by change _ < 3670; omega), if_neg (by tauto)]

/-- Settles O7: the loss by `enterDark_spec`, the return by `huntBit_scan`, the edge watch by `Idling.step_receiver`. -/
theorem clockLossAndReturn : Obligations.ClockLossAndReturn := by
  intro l bit s
  refine ⟨fun runs on heard => ?_, fun runs dark lof => ?_, fun idling runs => ?_⟩
  · have acts : (inHunt s l || (s.running && s.isAligned l)) = true := by
      unfold inHunt State.isAligned
      rw [runs]
      cases h : (s.line l).lrx.align with
      | off => exact absurd h on
      | dark => exact absurd h heard
      | search => rfl
      | check => rfl
      | aligned => rfl
    obtain ⟨line, latched, out, falls⟩ := enterDark_spec l s
    obtain ⟨mon, drops, keeps⟩ := falls.fallen out
    rw [latched] at mon
    exact ⟨_, congrArg Host.Outcome.next (if_pos acts), (congrArg Line.lrx line :), (congrArg Line.store line :),
      (congrArg Line.framer line :), mon, drops, keeps, enterDark_frame l s⟩
  · have run : exec (.firstClockEdge l bit) s = .next (lineBit l (s.onLrx l Lrx.firstEdge) bit) :=
      congrArg Host.Outcome.next (if_pos (by simp [runs, dark]))
    refine ⟨_, run, ?_⟩
    have received : ((s.onLrx l Lrx.firstEdge).line l).lrx = (s.line l).lrx.firstEdge := by rw [State.onLrx_line]
    have one : ([bit] : List Bool) ≠ octetBits Config.alignmentWord := fun h => by
      have := congrArg List.length h
      rw [octetBits_length] at this
      simp at this
    have going : huntBit (s.line l).lrx.firstEdge.timed bit = ({ (s.line l).lrx.firstEdge.timed with scan := [bit] }, .going) :=
      (huntBit_scan rfl rfl bit).trans (congrArg (fun r => (r, HuntStep.going)) (if_neg one))
    dsimp only
    rw [lineBit_silent (by rw [received]; exact .inl rfl) (by rw [received]; exact going) (by rw [received]; rfl)
      (.inl (by rw [received]; exact lof)), State.onLrx_onLrx, State.onLrx_line]
    exact ⟨rfl, onlyLine_onLrx s l _⟩
  · obtain ⟨t, run, lrx, -, due⟩ := idling.step_receiver runs
    refine ⟨t, run, fun edge on => ?_, fun still => ?_⟩
    · have ticked : (t.line l).lrx = Lrx.edged { (s.line l).lrx with clockSeen := s.pins.lineClock.getLsbD l.val }
          (s.pins.lineData.getLsbD l.val) := (lrx l).trans (if_pos edge)
      have events : (s.line l).events s.pins l = (s.line l).lrx.edgeEvents l (s.pins.lineData.getLsbD l.val) := if_pos edge
      rw [ticked, due l _ rfl, due l _ rfl, events]
      refine ⟨?_, ?_, ?_⟩
      · unfold Lrx.edged
        split <;> rfl
      · unfold Lrx.edgeEvents
        split
        · simp
        · simp
        · split <;> simp
        · simp
        · exact (alignedEvents_no_clock l _ _).1
      · unfold Lrx.edgeEvents
        cases h : (s.line l).lrx.align with
        | off => exact absurd h on
        | dark => simp
        | search => dsimp only; split <;> simp
        | check => simp
        | aligned => exact iff_of_false ((alignedEvents_no_clock l _ _).2 _) Align.noConfusion
    · have ticked : (t.line l).lrx = Lrx.watched { (s.line l).lrx with clockSeen := s.pins.lineClock.getLsbD l.val } :=
        (lrx l).trans (if_neg (by simpa [clockEdge] using still))
      have events : (s.line l).events s.pins l = (s.line l).lrx.watchEvents l := if_neg (by simpa [clockEdge] using still)
      rw [ticked, due l _ rfl, events]
      refine ⟨Lrx.watched_eq _, ?_⟩
      unfold Lrx.watchEvents
      have last : (s.line l).lrx.edgeWatch + 1 = Config.edgeWatchLimit ↔ (s.line l).lrx.edgeWatch = 3669 := by
        change _ + 1 = 3670 ↔ _
        omega
      rw [← last]
      split
      · next runsOut => exact iff_of_true (List.mem_singleton_self _) runsOut
      · next more => exact iff_of_false List.not_mem_nil more

end Sys2Proof.Machine
end

section
/-! READ_MARK: the decision, the slip log, EXCESS, and the frame handed over (02, sections 2.2 to 2.7). -/

namespace Sys2Proof.Machine

/-! ### What the judging of a line leaves -/

/-- Between `s` and `t` nothing but line `l`, the selection and its loss differs. -/
def OnlyJudged (l : LineNo) (s t : State) : Prop :=
  (∀ m, m ≠ l → t.line m = s.line m) ∧ { t with lines := s.lines, selected := s.selected, lostNotice := s.lostNotice } = s

theorem OnlyJudged.refl (l : LineNo) (s : State) : OnlyJudged l s s := ⟨fun _ _ => rfl, rfl⟩

theorem OnlyJudged.trans {l : LineNo} {s t u : State} (first : OnlyJudged l s t) (second : OnlyJudged l t u) : OnlyJudged l s u := by
  obtain ⟨others, rest⟩ := first
  obtain ⟨others', rest'⟩ := second
  refine ⟨fun m other => (others' m other).trans (others m other), ?_⟩
  exact (congrArg (fun x : State => { x with lines := s.lines, selected := s.selected, lostNotice := s.lostNotice }) rest' :).trans rest

theorem OnlyJudged.of_line {l : LineNo} {s t : State} (only : OnlyLine l s t) : OnlyJudged l s t :=
  ⟨only.1, (congrArg (fun x : State => { x with lines := s.lines, selected := s.selected, lostNotice := s.lostNotice }) only.2 :)⟩

theorem rejudge_only (l : LineNo) (s : State) : OnlyJudged l s (rejudge l s) := ⟨(rejudge_spec l s).2.1, (rejudge_spec l s).2.2.2⟩

theorem raise_only (c : LineCond) (l : LineNo) (s : State) : OnlyJudged l s (raise c l s) := by
  unfold raise
  split
  · exact .refl l s
  · exact (OnlyJudged.of_line (onlyLine_setLine s l _)).trans (rejudge_only l _)

theorem release_only (c : LineCond) (l : LineNo) (s : State) : OnlyJudged l s (release c l s) := by
  unfold release
  split
  · exact (OnlyJudged.of_line (onlyLine_setLine s l _)).trans (rejudge_only l _)
  · exact .refl l s

/-! ### EXCESS (R29, R42) -/

theorem release_excess_line (l : LineNo) (s : State) : (release .excess l s).line l
    = { s.line l with store := { (s.line l).store with excess := false }, mon := ((release .excess l s).line l).mon } := by
  unfold release
  split
  · exact (rejudge_line l _).trans (by rw [State.setLine_line]; rfl)
  · next gone =>
    have gone : (s.line l).store.excess = false := by simpa [Line.live] using gone
    rw [← gone]

/-- EXCESS asserted: it is live; where it was not, its flag is latched and the line is no longer otherwise qualified. -/
theorem raise_excess_line (l : LineNo) (s : State) :
    (raise .excess l s).line l
        = { s.line l with store := { (s.line l).store with excess := true }, mon := ((raise .excess l s).line l).mon }
      ∧ ((s.line l).store.excess = false →
        ((raise .excess l s).line l).mon.latched.excess = true ∧ ((raise .excess l s).line l).mon.otherwise = false) := by
  have line : (raise .excess l s).line l
      = { s.line l with store := { (s.line l).store with excess := true }, mon := ((raise .excess l s).line l).mon } := by
    unfold raise
    split
    · next live =>
      have live : (s.line l).store.excess = true := live
      rw [← live]
    · exact (rejudge_line l _).trans (by rw [State.setLine_line]; rfl)
  refine ⟨line, fun quiet => ⟨(raise_spec .excess l s).2.1 quiet, ?_⟩⟩
  have excess : ((raise .excess l s).line l).store.excess = true := by rw [line]
  unfold raise at excess ⊢
  rw [if_neg (by simp [Line.live, quiet])] at excess ⊢
  refine (rejudge_sound l _).trans ?_
  unfold qualifies
  rw [excess]
  simp

/-- The ending epoch's slips closed at an epoch mark (R22 step 1). -/
theorem closeSlips_spec (l : LineNo) (s : State) :
    (closeSlips l s).line l = { s.line l with
        store := { (s.line l).store with
          epochSlips := 0, excess := (s.line l).store.excess && !((s.line l).store.epochSlips == 0) }
        mon := ((closeSlips l s).line l).mon }
      ∧ OnlyJudged l s (closeSlips l s) := by
  unfold closeSlips
  dsimp only
  split
  · next none =>
    refine ⟨?_, (release_only .excess l s).trans (.of_line (onlyLine_onStore _ l _))⟩
    rw [State.onStore_line, release_excess_line, none]
    simp
  · next some =>
    refine ⟨?_, .of_line (onlyLine_onStore s l _)⟩
    rw [State.onStore_line]
    simp [some]

/-! ### The decision -/

/-- The slips of the epoch that this boundary counts in. -/
def Store.slipsNow (t : Store) (frame : Nat) : Nat := if frame = 0 then 0 else t.epochSlips

/-- EXCESS after the ending epoch has been closed. -/
def Store.excessNow (t : Store) (frame : Nat) : Bool := t.excess && !(frame == 0 && t.epochSlips == 0)

/-- Step 1 of R22, at whatever boundary. -/
theorem closed_spec (l : LineNo) (s : State) : ∃ u, (if s.atEpochMark then closeSlips l s else s) = u
    ∧ u.line l = { s.line l with
        store := { (s.line l).store with
          epochSlips := (s.line l).store.slipsNow s.floor.frame, excess := (s.line l).store.excessNow s.floor.frame }
        mon := (u.line l).mon }
    ∧ OnlyJudged l s u := by
  refine ⟨_, rfl, ?_⟩
  unfold Store.slipsNow Store.excessNow State.atEpochMark
  by_cases mark : s.floor.frame = 0
  · rw [mark]
    exact closeSlips_spec l s
  · have inside : (s.floor.frame == 0) = false := by simpa using mark
    simp [mark, inside, OnlyJudged.refl]

/-- The slips of the epoch after a decision. -/
def Decision.counted (d : Decision) (n : Nat) : Nat := if d.slips then bump 255 n else n

/-- Whether a decision asserts EXCESS. -/
def Decision.exceeds (d : Decision) (mask : Bool) (n : Nat) : Bool := d.slips && decide (4 < d.counted n) && !mask

/-- The log after a decision. -/
def Decision.logged (d : Decision) (l : LineNo) (t : Store) (grade epoch : Nat) (g : Log) : Log :=
  match d.record with
  | none => g
  | some k => g.add k l epoch (fillOf t.w t.n) (fillOf t.w (decidedCell t d)) grade

/-- Between `s` and `t` nothing but line `l`, the selection and its loss and the slip log differs. -/
def OnlyStore (l : LineNo) (s t : State) : Prop :=
  (∀ m, m ≠ l → t.line m = s.line m)
    ∧ { t with lines := s.lines, selected := s.selected, lostNotice := s.lostNotice, log := s.log } = s

theorem OnlyStore.trans {l : LineNo} {s t u : State} (first : OnlyStore l s t) (second : OnlyStore l t u) : OnlyStore l s u := by
  obtain ⟨others, rest⟩ := first
  obtain ⟨others', rest'⟩ := second
  refine ⟨fun m other => (others' m other).trans (others m other), ?_⟩
  exact (congrArg (fun x : State => { x with
    lines := s.lines, selected := s.selected, lostNotice := s.lostNotice, log := s.log }) rest' :).trans rest

theorem OnlyStore.of_judged {l : LineNo} {s t : State} (only : OnlyJudged l s t) : OnlyStore l s t :=
  ⟨only.1, (congrArg (fun x : State => { x with log := s.log }) only.2 :)⟩

theorem logDecision_eq (l : LineNo) (d : Decision) (t : Store) (s : State) :
    logDecision l d t s = { s with log := d.logged l t (s.line l).lrx.grade s.floor.epoch s.log } := by
  unfold logDecision Decision.logged
  cases d.record <;> rfl

theorem decideSlip_spec (l : LineNo) (s : State) (t : Store) (d : Decision) (store : (s.line l).store = t)
    (decided : d = decision (s.lineSetup l) (s.isAligned l) s.steered t) :
    (decideSlip l s).line l = { s.line l with
        store := { t.decided d with excess := t.excess || d.exceeds (s.lineSetup l).maskExcess t.epochSlips }
        mon := ((decideSlip l s).line l).mon }
      ∧ (t.excess = false → d.exceeds (s.lineSetup l).maskExcess t.epochSlips = true →
          ((decideSlip l s).line l).mon.latched.excess = true ∧ ((decideSlip l s).line l).mon.otherwise = false)
      ∧ (decideSlip l s).log = d.logged l t (s.line l).lrx.grade s.floor.epoch s.log
      ∧ OnlyStore l s (decideSlip l s) := by
  obtain ⟨u, made, line, log, only, setup⟩ : ∃ u, logDecision l d t (s.onStore l fun t => t.decided d) = u
      ∧ u.line l = { s.line l with store := t.decided d }
      ∧ u.log = d.logged l t (s.line l).lrx.grade s.floor.epoch s.log ∧ OnlyStore l s u ∧ u.lineSetup l = s.lineSetup l := by
    refine ⟨_, logDecision_eq l d t _, ?_, ?_, ?_, rfl⟩
    · rw [← store]
      exact State.onStore_line s l fun t => t.decided d
    · change d.logged l t ((s.onStore l _).line l).lrx.grade _ _ = _
      rw [State.onStore_line]
      rfl
    · exact ⟨fun m other => (onlyLine_onStore s l fun t => t.decided d).1 m other, rfl⟩
  have unfolded : decideSlip l s = if d.exceeds (s.lineSetup l).maskExcess t.epochSlips then raise .excess l u else u := by
    unfold decideSlip
    dsimp only
    rw [store, ← decided, made]
    unfold excessTest
    rw [line, setup]
    rfl
  rw [unfolded]
  cases exceeds : d.exceeds (s.lineSetup l).maskExcess t.epochSlips with
  | false =>
    rw [if_neg Bool.false_ne_true]
    refine ⟨?_, fun _ h => absurd h Bool.false_ne_true, log, only⟩
    rw [line, Bool.or_false]
    rfl
  | true =>
    rw [if_pos rfl]
    obtain ⟨raised, judged⟩ := raise_excess_line l u
    have rest := raise_only .excess l u
    refine ⟨?_, fun quiet _ => judged (by rw [line]; exact quiet), (congrArg State.log rest.2 :).trans log,
      only.trans (.of_judged rest)⟩
    rw [raised, line, Bool.or_true]

/-! ### The read mark of an enabled line -/

/-- The slips of the epoch as a read mark of an enabled line leaves them. -/
def Store.slipsAfter (t : Store) (d : Decision) (frame : Nat) : Nat := d.counted (t.slipsNow frame)

/-- EXCESS as a read mark of an enabled line leaves it. -/
def Store.excessAfter (t : Store) (d : Decision) (frame : Nat) (mask : Bool) : Bool :=
  t.excessNow frame || d.exceeds mask (t.slipsNow frame)

/-- The store after a read mark of an enabled line. -/
def Store.marked (t : Store) (d : Decision) (frame : Nat) (mask : Bool) : Store :=
  { t.decided d with n := decidedCell t d + 1, epochSlips := t.slipsAfter d frame, excess := t.excessAfter d frame mask }

theorem handOver_line (l : LineNo) (s : State) (steered enable : Bool) (hs : s.steered = steered) (he : s.enabled l = enable) :
    (handOver l s).line l = { s.line l with
        framer := (s.line l).framer.begin (s.line l).store.n (carriesTraffic steered enable (s.line l) (s.line l).store.n)
          (squelchReason enable (carriesTraffic steered enable (s.line l) (s.line l).store.n) (s.line l) (s.line l).store.n) }
      ∧ OnlyLine l s (handOver l s) := by
  subst hs he
  exact ⟨State.onFramer_line s l _, onlyLine_onFramer s l _⟩

/-- A read mark of an enabled line: its line, the slip log, and what EXCESS newly asserted does (R22 to R29, R31). -/
theorem exec_readMark_enabled {l : LineNo} {s : State} (runs : s.running = true) (enabled : s.enabled l = true) (d : Decision)
    (decided : d = decision (s.lineSetup l) (s.isAligned l) s.steered (s.line l).store) (x : Line)
    (marked : x = { s.line l with store := (s.line l).store.marked d s.floor.frame (s.lineSetup l).maskExcess }) :
    ∃ t, exec (.readMark l) s = .next t
      ∧ t.line l = { x with
          framer := x.framer.begin (x.store.n - 1) (carriesTraffic s.steered true x (x.store.n - 1))
            (squelchReason true (carriesTraffic s.steered true x (x.store.n - 1)) x (x.store.n - 1))
          mon := (t.line l).mon }
      ∧ t.log = d.logged l (s.line l).store (s.line l).lrx.grade s.floor.epoch s.log
      ∧ ((s.line l).store.excess = false → x.store.excess = true →
          (t.line l).mon.latched.excess = true ∧ (t.line l).mon.otherwise = false)
      ∧ OnlyReadMark l s t := by
  obtain ⟨u, closed, closedLine, judged⟩ := closed_spec l (s.took (.readMark l))
  have setup : u.lineSetup l = s.lineSetup l := (congrArg (fun v : State => v.lineSetup l) judged.2 :)
  have steers : u.steered = s.steered := (congrArg State.steered judged.2 :)
  have aligned : u.isAligned l = s.isAligned l := by
    unfold State.isAligned
    rw [closedLine]
    rfl
  have floor : u.floor = s.floor := (congrArg State.floor judged.2 :)
  have log : u.log = s.log := (congrArg State.log judged.2 :)
  have same : d = decision (u.lineSetup l) (u.isAligned l) u.steered (u.line l).store := by
    rw [decided, setup, steers, aligned, closedLine]
    rfl
  obtain ⟨slipped, asserts, logged, only⟩ := decideSlip_spec l u _ d rfl same
  have running : (decideSlip l u).steered = s.steered := (congrArg State.steered only.2 :).trans steers
  have enables : (decideSlip l u).enabled l = true :=
    ((congrArg (fun v : State => v.enabled l) only.2 :).trans (congrArg (fun v : State => v.enabled l) judged.2 :)).trans enabled
  obtain ⟨handed, hands⟩ := handOver_line l (decideSlip l u) s.steered true running enables
  have run : exec (.readMark l) s = .next ((handOver l (decideSlip l u)).onStore l fun t => { t with n := t.n + 1 }) := by
    rw [← closed]
    change Host.Outcome.next (if !s.running then _ else if s.enabled l then readMarkEnabled l (s.took (.readMark l)) else _) = _
    rw [runs, if_neg (by decide), if_pos enabled]
    rfl
  have cell : x.store.n - 1 = decidedCell (s.line l).store d := by
    rw [marked]
    exact add_sub_cancel_right _ _
  have line : ((handOver l (decideSlip l u)).onStore l fun t => { t with n := t.n + 1 }).line l = { x with
      framer := x.framer.begin (x.store.n - 1) (carriesTraffic s.steered true x (x.store.n - 1))
        (squelchReason true (carriesTraffic s.steered true x (x.store.n - 1)) x (x.store.n - 1))
      mon := ((decideSlip l u).line l).mon } := by
    rw [State.onStore_line, handed, slipped, closedLine, cell, marked, setup]
    rfl
  have mon := (congrArg Line.mon line :)
  refine ⟨_, run, ?_, ?_, fun quiet excess => ?_, ?_⟩
  · rw [mon]
    exact line
  · change (handOver l (decideSlip l u)).log = _
    rw [(congrArg State.log hands.2 :), logged, closedLine, floor, log]
    rfl
  · rw [mon]
    have before : (u.line l).store.excess = false := by
      rw [closedLine]
      change (s.line l).store.excessNow s.floor.frame = false
      unfold Store.excessNow
      rw [quiet, Bool.false_and]
    refine asserts before ?_
    have after : (s.line l).store.excessAfter d s.floor.frame (s.lineSetup l).maskExcess = true := by
      rw [marked] at excess
      exact excess
    unfold Store.excessAfter Store.excessNow at after
    rw [quiet, Bool.false_and, Bool.false_or] at after
    rw [setup, closedLine]
    exact after
  · obtain ⟨others, rest⟩ := (((OnlyStore.of_judged judged).trans only).trans (.of_judged (.of_line hands))).trans
      (.of_judged (.of_line (onlyLine_onStore _ l fun t => { t with n := t.n + 1 })))
    exact ⟨others, (congrArg State.due rest :), (congrArg (fun v : State => { v with due := s.due }) rest :)⟩

/-! ### The frame in hand (R31) -/

theorem carriesTraffic_enabled (steered : Bool) (x : Line) (cell : Fin 8) : carriesTraffic steered true x cell
    = (steered && x.lrx.align == .aligned && !x.store.excess && x.store.fresh.get cell) := by
  simp [carriesTraffic]

/-- The squelch reason of an enabled line's frame: LINE before FLOOR. -/
theorem squelchReason_enabled (steered : Bool) (x : Line) (cell : Fin 8) :
    squelchReason true (steered && x.lrx.align == .aligned && !x.store.excess && x.store.fresh.get cell) x cell
      = if (x.lrx.align == .aligned) = false ∨ x.store.excess = true ∨ x.store.fresh.get cell = false then .line
        else if steered then .none else .floor := by
  unfold squelchReason
  by_cases bad : (x.lrx.align == .aligned) = false ∨ x.store.excess = true ∨ x.store.fresh.get cell = false
  · have fill : (steered && x.lrx.align == .aligned && !x.store.excess && x.store.fresh.get cell) = false := by
      obtain h | h | h := bad <;> simp [h]
    have line : (x.lrx.align != .aligned || x.store.excess || !x.store.fresh.get cell) = true := by
      obtain h | h | h := bad <;> simp [h, bne]
    rw [if_pos bad, fill, if_neg (by decide), if_pos line]
  · simp only [not_or, Bool.not_eq_false, Bool.not_eq_true] at bad
    obtain ⟨aligned, quiet, fresh⟩ := bad
    simp [aligned, quiet, fresh, bne]

/-- A frame begun under EXCESS is a fill frame with reason LINE. -/
theorem begin_of_excess {x : Line} (f : Framer) {cell : Fin 8} {steered : Bool} (live : x.store.excess = true) :
    (f.begin cell (carriesTraffic steered true x cell) (squelchReason true (carriesTraffic steered true x cell) x cell)).inHand.map
        InHand.traffic = some false
      ∧ (f.begin cell (carriesTraffic steered true x cell) (squelchReason true (carriesTraffic steered true x cell) x cell)).reason
        = .line := by
  have fill : carriesTraffic steered true x cell = false := by simp [carriesTraffic, live]
  rw [fill]
  exact ⟨rfl, by simp [Framer.begin, squelchReason, live]⟩

/-! ### The slip decision (R23 to R26) -/

theorem decision_of_slip {u : LineSetup} {t : Store} (request : t.request = none) : decision u true true t = slipDecision u t (fillOf t.w t.n) := by
  unfold decision
  rw [request]
  rfl

theorem Fin.cellBefore_val (n : Fin 8) : (n - 1).val = (n.val + 7) % 8 := by revert n; decide

theorem Fin.cellAfter_val (n : Fin 8) : (n + 1).val = (n.val + 1) % 8 := by revert n; decide

/-- The cell before again: the fill is 36 higher (R24). -/
theorem fillOf_before (w : Fin 288) (n : Fin 8) (low : fillOf w n < 252) : fillOf w (n - 1) = fillOf w n + 36 := by
  unfold fillOf at *
  rw [Fin.cellBefore_val]
  omega

/-- A cell skipped: the fill is 36 lower (R25). -/
theorem fillOf_after (w : Fin 288) (n : Fin 8) (high : 36 ≤ fillOf w n) : fillOf w (n + 1) = fillOf w n - 36 := by
  unfold fillOf at *
  rw [Fin.cellAfter_val]
  omega

/-- The cell in hand after a read mark. -/
theorem begin_cell (f : Framer) (cell : Fin 8) (traffic : Bool) (reason : Reason) :
    (f.begin cell traffic reason).inHand.map InHand.cell = some cell := rfl

/-- The store after a slip. -/
theorem Store.marked_of_slip (t : Store) {d : Decision} (slips : d.slips = true) (total : t.slipTotal ≤ 65535) (epoch : t.epochSlips ≤ 255)
    (frame : Nat) (mask : Bool) : t.marked d frame mask = { t with
      n := decidedCell t d + 1, fill := fillOf t.w (decidedCell t d), repeatPending := false, deletePending := false, request := none
      slipTotal := min 65535 (t.slipTotal + 1), epochSlips := min 255 ((if frame = 0 then 0 else t.epochSlips) + 1)
      excess := t.excessAfter d frame mask } := by
  have counted : t.slipsAfter d frame = min 255 ((if frame = 0 then 0 else t.epochSlips) + 1) :=
    (if_pos slips).trans (bump_spec 255 _ (by unfold Store.slipsNow; split <;> omega))
  have repeatOff : (d == .pendRepeat) = false := beq_eq_false_iff_ne.mpr (by rintro rfl; exact absurd slips (by decide))
  have deleteOff : (d == .pendDelete) = false := beq_eq_false_iff_ne.mpr (by rintro rfl; exact absurd slips (by decide))
  unfold Store.marked Store.decided
  rw [counted, repeatOff, deleteOff, slips, if_pos rfl, bump_spec _ _ total]

/-- Settles O18: the decision by `decision_of_slip`, its mark by `exec_readMark_enabled`. -/
theorem slipsMoveReadCell : Obligations.SlipsMoveReadCell := by
  intro l f s
  refine ⟨fun runs enabled aligned steered request fill low bound pending total slips => ?_,
    fun runs enabled aligned steered request fill high bound low pending total slips => ?_, fun g kind epoch before after grade => ?_⟩
  · have fill : fillOf (s.line l).store.w (s.line l).store.n = f := fill.symm
    have decided : Decision.slipRepeat = decision (s.lineSetup l) (s.isAligned l) s.steered (s.line l).store := by
      rw [aligned, steered, decision_of_slip request, fill, slipDecision, if_pos low, if_pos pending]
    have after : fillOf (s.line l).store.w ((s.line l).store.n - 1) = f + 36 := by rw [fillOf_before _ _ (by omega), fill]
    obtain ⟨t, run, line, log, -, only⟩ := exec_readMark_enabled runs enabled .slipRepeat decided _ rfl
    rw [Store.marked_of_slip _ rfl total slips] at line
    have store := (congrArg Line.store line :)
    refine ⟨t, run, ?_, ?_, ?_, (congrArg Line.lrx line :), only⟩
    · rw [store]
      dsimp only [decidedCell]
      rw [after, sub_add_cancel, request]
    · rw [(congrArg Line.framer line :), begin_cell]
      exact congrArg some (add_sub_cancel_right _ _)
    · rw [log]
      change s.log.add .slipRepeat l s.floor.epoch (fillOf _ _) (fillOf (s.line l).store.w ((s.line l).store.n - 1)) _ = _
      rw [after, fill]
  · have fill : fillOf (s.line l).store.w (s.line l).store.n = f := fill.symm
    have decided : Decision.slipDelete = decision (s.lineSetup l) (s.isAligned l) s.steered (s.line l).store := by
      rw [aligned, steered, decision_of_slip request, fill, slipDecision, if_neg (by omega), if_pos high, if_pos pending]
    have after : fillOf (s.line l).store.w ((s.line l).store.n + 1) = f - 36 := by rw [fillOf_after _ _ (by omega), fill]
    obtain ⟨t, run, line, log, -, only⟩ := exec_readMark_enabled runs enabled .slipDelete decided _ rfl
    rw [Store.marked_of_slip _ rfl total slips] at line
    have store := (congrArg Line.store line :)
    refine ⟨t, run, ?_, ?_, ?_, (congrArg Line.lrx line :), only⟩
    · rw [store]
      dsimp only [decidedCell]
      rw [after, add_assoc, request]
      rfl
    · rw [(congrArg Line.framer line :), begin_cell]
      exact congrArg some (add_sub_cancel_right _ _)
    · rw [log]
      change s.log.add .slipDelete l s.floor.epoch (fillOf _ _) (fillOf (s.line l).store.w ((s.line l).store.n + 1)) _ = _
      rw [after, fill]
  · refine ⟨fun room => ?_, fun full => ?_⟩
    · unfold Log.add
      rw [if_pos room]
    · unfold Log.add
      rw [if_neg (by omega), List.drop_one]
      rfl

/-! ### A mark without a slip (R23, R27, R28) -/

/-- The store after a mark without a slip. -/
theorem Store.marked_of_still (t : Store) {d : Decision} (still : d.slips = false) (frame : Nat) (mask : Bool) :
    t.marked d frame mask = { t with
      n := decidedCell t d + 1, fill := fillOf t.w (decidedCell t d), repeatPending := d == .pendRepeat
      deletePending := d == .pendDelete, request := none
      epochSlips := if frame = 0 then 0 else t.epochSlips, excess := t.excess && !(frame == 0 && t.epochSlips == 0) } := by
  have counted : t.slipsAfter d frame = if frame = 0 then 0 else t.epochSlips := by
    unfold Store.slipsAfter Decision.counted
    rw [still]
    rfl
  have excess : t.excessAfter d frame mask = (t.excess && !(frame == 0 && t.epochSlips == 0)) := by
    unfold Store.excessAfter Decision.exceeds
    rw [still, Bool.false_and, Bool.false_and, Bool.or_false]
    rfl
  unfold Store.marked Store.decided
  rw [counted, excess, still]
  rfl

/-- A decision that only sets or clears the pending flags. -/
theorem decision_pends {u : LineSetup} {aligned steered : Bool} {t : Store} (request : aligned = true → t.request = none)
    (low : aligned = true → steered = true → fillOf t.w t.n < u.slipLow → t.repeatPending = false)
    (high : aligned = true → steered = true → u.slipHigh < fillOf t.w t.n → t.deletePending = false) :
    decision u aligned steered t = if aligned && steered && decide (fillOf t.w t.n < u.slipLow) then .pendRepeat
      else if aligned && steered && decide (u.slipHigh < fillOf t.w t.n) then .pendDelete else .nothing := by
  cases aligned with
  | false => rfl
  | true =>
    cases steered with
    | false =>
      unfold decision
      rw [request rfl]
      rfl
    | true =>
      rw [decision_of_slip (request rfl)]
      unfold slipDecision
      simp only [Bool.true_and, decide_eq_true_eq]
      by_cases below : fillOf t.w t.n < u.slipLow
      · rw [if_pos below, if_pos below, low rfl rfl below]
        rfl
      · rw [if_neg below, if_neg below]
        by_cases above : u.slipHigh < fillOf t.w t.n
        · rw [if_pos above, if_pos above, high rfl rfl above]
          rfl
        · rw [if_neg above, if_neg above]

/-- Settles O19: the decision by `decision_pends`, its mark by `exec_readMark_enabled`. -/
theorem firstReadingOnlyPends : Obligations.FirstReadingOnlyPends := by
  intro l f s runs enabled request fill low high ordered
  have fill : fillOf (s.line l).store.w (s.line l).store.n = f := fill.symm
  have pends := decision_pends request (by rw [fill]; exact low) (by rw [fill]; exact high)
  rw [fill] at pends
  obtain ⟨d, decided⟩ : ∃ d, d = decision (s.lineSetup l) (s.isAligned l) s.steered (s.line l).store := ⟨_, rfl⟩
  obtain ⟨t, run, line, log, -, only⟩ := exec_readMark_enabled runs enabled d decided _ rfl
  rw [← decided] at pends
  have kinds : d.slips = false ∧ d.record = none ∧ decidedCell (s.line l).store d = (s.line l).store.n
      ∧ (d == .pendRepeat) = (s.isAligned l && s.steered && decide (f < (s.lineSetup l).slipLow))
      ∧ (d == .pendDelete) = (s.isAligned l && s.steered && decide ((s.lineSetup l).slipHigh < f)) := by
    rw [pends]
    split
    · next repeats =>
      refine ⟨rfl, rfl, rfl, repeats.symm, ?_⟩
      have : ¬ (s.lineSetup l).slipHigh < f := by
        simp only [Bool.and_eq_true, decide_eq_true_eq] at repeats
        omega
      rw [decide_eq_false this, Bool.and_false]
      rfl
    · next repeats =>
      rw [Bool.not_eq_true] at repeats
      rw [repeats]
      split
      · next deletes => exact ⟨rfl, rfl, rfl, rfl, deletes.symm⟩
      · next deletes =>
        rw [Bool.not_eq_true] at deletes
        exact ⟨rfl, rfl, rfl, rfl, deletes.symm⟩
  obtain ⟨still, silent, cell, repeatPending, deletePending⟩ := kinds
  rw [Store.marked_of_still _ still, cell, repeatPending, deletePending, fill] at line
  refine ⟨t, run, (congrArg Line.store line :), ?_, ?_, (congrArg Line.lrx line :), only⟩
  · rw [(congrArg Line.framer line :), begin_cell]
    exact congrArg some (add_sub_cancel_right _ _)
  · rw [log, Decision.logged, silent]

/-! ### The recentre (R28) -/

theorem recentred_spec (w : Fin 288) :
    (126 ≤ fillOf w (recentred w) ∧ fillOf w (recentred w) ≤ 161)
      ∧ ∀ n : Fin 8, 126 ≤ fillOf w n → fillOf w n ≤ 161 → n = recentred w := by
  have window : 126 ≤ fillOf w (recentred w) ∧ fillOf w (recentred w) ≤ 161 := by
    have centre : 126 ≤ fillOf w ⟨(w.val + 162) / 36 % 8, by omega⟩ ∧ fillOf w ⟨(w.val + 162) / 36 % 8, by omega⟩ ≤ 161 := by
      unfold fillOf
      dsimp only
      omega
    unfold recentred
    cases found : ([0, 1, 2, 3, 4, 5, 6, 7] : List (Fin 8)).find? fun n => decide (126 ≤ fillOf w n) && decide (fillOf w n ≤ 161) with
    | none =>
      have all : ∀ n : Fin 8, n ∈ ([0, 1, 2, 3, 4, 5, 6, 7] : List (Fin 8)) := by decide
      exact absurd (by simpa using centre) (List.find?_eq_none.mp found _ (all _))
    | some n => simpa using List.find?_some found
  refine ⟨window, fun n low high => ?_⟩
  unfold fillOf at *
  omega

/-- Settles O20: the cell by `recentred_spec`, its mark by `exec_readMark_enabled`. -/
theorem recentreCentresFill : Obligations.RecentreCentresFill := by
  intro l cause s runs enabled aligned request
  have decided : Decision.recentre cause = decision (s.lineSetup l) (s.isAligned l) s.steered (s.line l).store := by
    unfold decision
    rw [aligned, request]
  obtain ⟨t, run, line, log, -, only⟩ := exec_readMark_enabled runs enabled (.recentre cause) decided _ rfl
  rw [Store.marked_of_still _ rfl] at line
  have store := (congrArg Line.store line :)
  have fill : (t.line l).store.fill = fillOf (s.line l).store.w (recentred (s.line l).store.w) := (congrArg Store.fill store :)
  obtain ⟨⟨low, high⟩, unique⟩ := recentred_spec (s.line l).store.w
  refine ⟨t, run, by rw [fill]; exact low, by rw [fill]; exact high, fun n low high => ?_, ?_, ?_, (congrArg Line.lrx line :), only⟩
  · rw [unique n low high]
    refine ⟨(congrArg Store.n store :), ?_, fill⟩
    rw [(congrArg Line.framer line :), begin_cell]
    exact congrArg some (add_sub_cancel_right _ _)
  · rw [store]
    rfl
  · rw [log, fill]
    cases cause <;> rfl

/-! ### EXCESS at a slip (R29) -/

/-- Settles O21: the assertion by `exec_readMark_enabled`, with `Decision.exceeds` at the slip that makes the count exceed 4. -/
theorem fifthSlipAssertsExcess : Obligations.FifthSlipAssertsExcess := by
  intro l f count s runs enabled aligned steered request fill counted small beyond
  have fill : fillOf (s.line l).store.w (s.line l).store.n = f := fill.symm
  obtain ⟨d, decided, slips⟩ : ∃ d, d = decision (s.lineSetup l) (s.isAligned l) s.steered (s.line l).store ∧ d.slips = true := by
    refine ⟨_, rfl, ?_⟩
    rw [aligned, steered, decision_of_slip request, fill, slipDecision]
    obtain ⟨low, pending⟩ | ⟨low, high, pending⟩ := beyond
    · rw [if_pos low, if_pos pending]
      rfl
    · rw [if_neg low, if_pos high, if_pos pending]
      rfl
  obtain ⟨t, run, line, -, asserts, only⟩ := exec_readMark_enabled runs enabled d decided _ rfl
  have excess : (t.line l).store.excess = _ := (congrArg (fun x : Line => x.store.excess) line :)
  have value : (s.line l).store.excessAfter d s.floor.frame (s.lineSetup l).maskExcess
      = ((s.line l).store.excess && !(s.floor.frame == 0 && (s.line l).store.epochSlips == 0)
        || !(s.lineSetup l).maskExcess && decide (4 < count + 1)) := by
    have now : (s.line l).store.slipsNow s.floor.frame = count := counted.symm
    have fifth : (4 < bump 255 count) ↔ 4 < count + 1 := by
      rw [bump_spec _ _ small]
      omega
    unfold Store.excessAfter Store.excessNow Decision.exceeds Decision.counted
    rw [slips, if_pos rfl, now, Bool.true_and, Bool.and_comm (!_), decide_eq_decide.mpr fifth]
  refine ⟨t, run, excess.trans value, fun quiet live => asserts quiet (excess.symm.trans live), fun live => ?_, only⟩
  have live := excess.symm.trans live
  rw [(congrArg Line.framer line :)]
  exact begin_of_excess _ live

/-! ### The frame handed over (R31, R38) -/

/-- Settles O22: the frame by `exec_readMark_enabled`, and that of a disabled line by `handOver_line`. -/
theorem frameIsDecidedAtReadMark : Obligations.FrameIsDecidedAtReadMark := by
  intro l s
  refine ⟨fun runs enabled => ?_, fun runs disabled => ?_⟩
  · obtain ⟨t, run, line, -, -, only⟩ := exec_readMark_enabled runs enabled _ rfl _ rfl
    refine ⟨t, run, ?_, (congrArg Line.lrx line :), only⟩
    rw [line]
    dsimp only
    rw [carriesTraffic_enabled, squelchReason_enabled]
    rfl
  · obtain ⟨handed, hands⟩ := handOver_line l (s.took (.readMark l)) s.steered false rfl disabled
    have run : exec (.readMark l) s = .next (handOver l (s.took (.readMark l))) := by
      change Host.Outcome.next (if !s.running then _ else if s.enabled l then _ else handOver l (s.took (.readMark l))) = _
      rw [runs, disabled, if_neg (by decide), if_neg (by decide)]
    have idle : ∀ x cell, carriesTraffic s.steered false x cell = false := fun x cell => by simp [carriesTraffic]
    rw [idle] at handed
    exact ⟨_, run, handed, (congrArg State.log hands.2 :), (congrArg State.selected hands.2 :), hands.1, (congrArg State.due hands.2 :),
      (congrArg (fun v : State => { v with due := s.due }) hands.2 :)⟩

end Sys2Proof.Machine
end

section
/-! MONITOR_EPOCH_WORK: the tests of the monitors on one line, one condition at a time (03, sections 3.2, 3.3 and 3.5). -/

namespace Sys2Proof.Machine

/-! ### Waits and release runs -/

/-- The conditions that the monitors hold themselves. -/
def LineCond.ofMonitor (c : LineCond) : Prop := c ≠ .lof ∧ c ≠ .excess

/-- The release run of a condition. -/
def Monitor.run (m : Monitor) : LineCond → Nat
  | .wander => m.wanderRun
  | .diverge => m.divergeRun
  | .crosscheck => m.crossReleaseRun
  | _ => 0

/-- The monitor with another release run of a condition. -/
def Monitor.setRun (m : Monitor) (c : LineCond) (n : Nat) : Monitor :=
  match c with
  | .wander => { m with wanderRun := n }
  | .diverge => { m with divergeRun := n }
  | .crosscheck => { m with crossReleaseRun := n }
  | _ => m

/-- Qualification, wait and candidacy stand. -/
def Monitor.SameWait (m m' : Monitor) : Prop := m'.otherwise = m.otherwise ∧ m'.wtr = m.wtr ∧ m'.candidate = m.candidate

/-- Qualification, wait and candidacy stand, or the wait has been loaded since (R53, R54). -/
def Monitor.Waits (u : LineSetup) (m m' : Monitor) : Prop :=
  m.SameWait m' ∨ (m'.wtr = 16 * u.wtrCode ∧ m'.candidate = (m'.otherwise && u.wtrCode == 0))

theorem Monitor.Waits.trans {u : LineSetup} {a b c : Monitor} (first : a.Waits u b) (second : b.Waits u c) : a.Waits u c := by
  obtain ⟨otherwise, wtr, candidate⟩ | loaded := second
  · obtain ⟨otherwise', wtr', candidate'⟩ | ⟨wtr', candidate'⟩ := first
    · exact .inl ⟨otherwise.trans otherwise', wtr.trans wtr', candidate.trans candidate'⟩
    · exact .inr ⟨wtr.trans wtr', by rw [candidate, candidate', otherwise]⟩
  · exact .inr loaded

theorem judge_waits (u : LineSetup) (q : Bool) (m : Monitor) : m.Waits u (judge u q m) := by
  obtain ⟨-, same, moved⟩ := judge_spec u q m
  by_cases h : m.otherwise = q
  · rw [same h]
    exact .inl ⟨rfl, rfl, rfl⟩
  · rw [moved h]
    exact .inr ⟨rfl, rfl⟩

/-! ### A test of one condition -/

/-- A test of condition `c` took line `x` to `y`: nothing else of the line moves but the wait, which follows the judging. -/
structure Tested (c : LineCond) (u : LineSetup) (x y : Line) : Prop where
  frame : y = { x with mon := y.mon }
  live : ∀ d, d ≠ c → y.live d = x.live d
  flags : ∀ d, d ≠ c → y.mon.latched.get d = x.mon.latched.get d
  run : ∀ d, d ≠ c → y.mon.run d = x.mon.run d
  phase : y.mon.handedPhase = x.mon.handedPhase
  drift : y.mon.handedDrift = x.mon.handedDrift
  parity : y.mon.handedParity = x.mon.handedParity
  prevDrift : y.mon.prevDrift = x.mon.prevDrift
  crossRun : y.mon.crossRun = x.mon.crossRun
  latches : y.live c = true → x.live c = false → y.mon.latched.get c = true
  sound : x.mon.otherwise = qualifies u x → y.mon.otherwise = qualifies u y
  waits : x.mon.Waits u y.mon
  stands : x.live c = false → y.live c = false → x.mon.SameWait y.mon

theorem Tested.refl (c : LineCond) (u : LineSetup) (x : Line) : Tested c u x x where
  frame := rfl
  live _ _ := rfl
  flags _ _ := rfl
  run _ _ := rfl
  phase := rfl
  drift := rfl
  parity := rfl
  prevDrift := rfl
  crossRun := rfl
  latches h g := absurd (h.symm.trans g) (by decide)
  sound h := h
  waits := .inl ⟨rfl, rfl, rfl⟩
  stands _ _ := ⟨rfl, rfl, rfl⟩

/-- A condition set on a line, and the line judged. -/
theorem tested_of_set {c : LineCond} (own : c.ofMonitor) (u : LineSetup) {x y : Line} {v : Bool} {flags : LineFlags}
    (set : y = { x.setLive c v with mon := { (x.setLive c v).mon with latched := flags } }) (moved : x.live c = !v)
    (others : ∀ d, d ≠ c → flags.get d = x.mon.latched.get d) (latches : v = true → flags.get c = true) :
    Tested c u x { y with mon := judge u (qualifies u y) y.mon }
      ∧ ({ y with mon := judge u (qualifies u y) y.mon } : Line).live c = v
      ∧ (judge u (qualifies u y) y.mon).run c = x.mon.run c := by
  have wait : x.mon.SameWait y.mon := by
    rw [set]
    cases c <;> exact ⟨rfl, rfl, rfl⟩
  have waits : x.mon.Waits u (judge u (qualifies u y) y.mon) := Monitor.Waits.trans (.inl wait) (judge_waits u _ _)
  have live : ∀ d, ({ y with mon := judge u (qualifies u y) y.mon } : Line).live d = if d = c then v else x.live d := fun d => by
    rw [← Line.live_setLive x c d v, set]
    unfold judge
    split <;> cases d <;> rfl
  have judged : ∀ m : Monitor, (judge u (qualifies u y) m).latched = m.latched
      ∧ (judge u (qualifies u y) m).run = m.run ∧ (judge u (qualifies u y) m).handedPhase = m.handedPhase
      ∧ (judge u (qualifies u y) m).handedDrift = m.handedDrift ∧ (judge u (qualifies u y) m).handedParity = m.handedParity
      ∧ (judge u (qualifies u y) m).prevDrift = m.prevDrift ∧ (judge u (qualifies u y) m).crossRun = m.crossRun := fun m => by
    unfold judge
    split
    · exact ⟨rfl, rfl, rfl, rfl, rfl, rfl, rfl⟩
    · exact ⟨rfl, funext fun d => by cases d <;> rfl, rfl, rfl, rfl, rfl, rfl⟩
  obtain ⟨latched, run, phase, drift, parity, prevDrift, crossRun⟩ := judged y.mon
  have kept : y.lrx = x.lrx ∧ y.store = x.store ∧ y.framer = x.framer ∧ y.mon.latched = flags ∧ y.mon.run = x.mon.run
      ∧ y.mon.handedPhase = x.mon.handedPhase ∧ y.mon.handedDrift = x.mon.handedDrift
      ∧ y.mon.handedParity = x.mon.handedParity ∧ y.mon.prevDrift = x.mon.prevDrift ∧ y.mon.crossRun = x.mon.crossRun := by
    rw [set]
    cases c
    case lof => exact absurd rfl own.1
    case excess => exact absurd rfl own.2
    all_goals exact ⟨rfl, rfl, rfl, rfl, funext fun d => by cases d <;> rfl, rfl, rfl, rfl, rfl, rfl⟩
  obtain ⟨lrx, store, framer, flagged, runs, phase', drift', parity', prevDrift', crossRun'⟩ := kept
  refine ⟨{
    frame := ?_
    live := fun d other => (live d).trans (if_neg other)
    flags := fun d other => by rw [latched, flagged]; exact others d other
    run := fun d _ => by rw [run, runs]
    phase := phase.trans phase'
    drift := drift.trans drift'
    parity := parity.trans parity'
    prevDrift := prevDrift.trans prevDrift'
    crossRun := crossRun.trans crossRun'
    latches := fun now _ => by
      rw [live, if_pos rfl] at now
      rw [latched, flagged]
      exact latches now
    sound := fun _ => by rw [qualifies_judge]; exact (judge_spec _ _ _).1
    waits := waits
    stands := fun before after => by
      rw [live, if_pos rfl] at after
      rw [moved, after] at before
      exact absurd before (by decide) }, (live c).trans (if_pos rfl), by rw [run, runs]⟩
  rw [← lrx, ← store, ← framer]

/-- What a release run is, is no part of the test's frame. -/
theorem Tested.setRun {c : LineCond} {u : LineSetup} {x y : Line} (tested : Tested c u x y) (n : Nat) :
    Tested c u x { y with mon := y.mon.setRun c n } := by
  have others : ∀ d, d ≠ c → (y.mon.setRun c n).run d = y.mon.run d := fun d other => by
    cases c with
    | wander =>
      cases d with
      | wander => exact absurd rfl other
      | _ => rfl
    | diverge =>
      cases d with
      | diverge => exact absurd rfl other
      | _ => rfl
    | crosscheck =>
      cases d with
      | crosscheck => exact absurd rfl other
      | _ => rfl
    | _ => rfl
  have live : ∀ d, ({ y with mon := y.mon.setRun c n } : Line).live d = y.live d := fun d => by cases c <;> cases d <;> rfl
  have same : (y.mon.setRun c n).latched = y.mon.latched ∧ (y.mon.setRun c n).handedPhase = y.mon.handedPhase
      ∧ (y.mon.setRun c n).handedDrift = y.mon.handedDrift ∧ (y.mon.setRun c n).handedParity = y.mon.handedParity
      ∧ (y.mon.setRun c n).prevDrift = y.mon.prevDrift ∧ (y.mon.setRun c n).crossRun = y.mon.crossRun
      ∧ y.mon.SameWait (y.mon.setRun c n) := by
    cases c <;> exact ⟨rfl, rfl, rfl, rfl, rfl, rfl, rfl, rfl, rfl⟩
  obtain ⟨latched, phase, drift, parity, prevDrift, crossRun, wait⟩ := same
  exact {
    frame := by rw [tested.frame]
    live := fun d other => (live d).trans (tested.live d other)
    flags := fun d other => by rw [latched]; exact tested.flags d other
    run := fun d other => (others d other).trans (tested.run d other)
    phase := phase.trans tested.phase
    drift := drift.trans tested.drift
    parity := parity.trans tested.parity
    prevDrift := prevDrift.trans tested.prevDrift
    crossRun := crossRun.trans tested.crossRun
    latches := fun now before => by
      rw [live] at now
      rw [latched]
      exact tested.latches now before
    sound := fun before => by
      have qualified : qualifies u { y with mon := y.mon.setRun c n } = qualifies u y := by cases c <;> rfl
      rw [qualified]
      exact wait.1.trans (tested.sound before)
    waits := tested.waits.trans (.inl wait)
    stands := fun before after => by
      rw [live] at after
      obtain ⟨otherwise, wtr, candidate⟩ := tested.stands before after
      exact ⟨wait.1.trans otherwise, wait.2.1.trans wtr, wait.2.2.trans candidate⟩ }

/-- A test composed with a release run set before it. -/
theorem Tested.after_setRun {c : LineCond} {u : LineSetup} {x y : Line} {n : Nat}
    (tested : Tested c u { x with mon := x.mon.setRun c n } y) : Tested c u x y := by
  have before := (Tested.refl c u x).setRun n
  have live : ({ x with mon := x.mon.setRun c n } : Line).live c = x.live c := by cases c <;> rfl
  have flags : (x.mon.setRun c n).latched = x.mon.latched := by cases c <;> rfl
  have wait : x.mon.SameWait (x.mon.setRun c n) := by cases c <;> exact ⟨rfl, rfl, rfl⟩
  exact {
    frame := tested.frame
    live := fun d other => (tested.live d other).trans (before.live d other)
    flags := fun d other => (tested.flags d other).trans (before.flags d other)
    run := fun d other => (tested.run d other).trans (before.run d other)
    phase := tested.phase.trans before.phase
    drift := tested.drift.trans before.drift
    parity := tested.parity.trans before.parity
    prevDrift := tested.prevDrift.trans before.prevDrift
    crossRun := tested.crossRun.trans before.crossRun
    latches := fun now quiet => tested.latches now (live.trans quiet)
    sound := fun sound => tested.sound (before.sound sound)
    waits := before.waits.trans tested.waits
    stands := fun quiet still => by
      obtain ⟨otherwise, wtr, candidate⟩ := tested.stands (live.trans quiet) still
      exact ⟨otherwise.trans wait.1, wtr.trans wait.2.1, candidate.trans wait.2.2⟩ }

/-! ### A test at the part -/

/-- Line `l` is selected. -/
def State.chosen (s : State) (l : LineNo) : Bool := s.selected == some l

theorem State.chosen_iff {s : State} {l : LineNo} : s.chosen l = true ↔ s.selected = some l := by simp [State.chosen]

/-- What a step on a line does to its selection: none is made, one that stands leaves the line otherwise qualified where it was, and one
that is dropped leaves it not so. -/
def KeepsChoice (x : Line) (p : Bool) (y : Line) (q : Bool) : Prop :=
  (q = true → p = true ∧ (x.mon.otherwise = true → y.mon.otherwise = true)) ∧ (p = true → q = false → y.mon.otherwise = false)

/-- A step on line `l` keeps the choice of every other line, and of `l` by `KeepsChoice`. -/
def Selects (l : LineNo) (s t : State) : Prop :=
  (∀ m, m ≠ l → t.chosen m = s.chosen m) ∧ KeepsChoice (s.line l) (s.chosen l) (t.line l) (t.chosen l)

/-- A step that judges nothing. -/
theorem Selects.of_same {l : LineNo} {s t : State} (selected : t.selected = s.selected)
    (otherwise : (t.line l).mon.otherwise = (s.line l).mon.otherwise) : Selects l s t := by
  unfold Selects State.chosen KeepsChoice
  rw [selected, otherwise]
  exact ⟨fun _ _ => rfl, fun h => ⟨h, fun h => h⟩, fun h g => absurd (h.symm.trans g) (by decide)⟩

/-- A step that judges nothing, before or after another. -/
theorem Selects.before {l : LineNo} {s t u : State} (selects : Selects l t u) (selected : t.selected = s.selected)
    (otherwise : (t.line l).mon.otherwise = (s.line l).mon.otherwise) : Selects l s u := by
  unfold Selects State.chosen KeepsChoice at *
  rw [selected, otherwise] at selects
  exact selects

theorem Selects.after {l : LineNo} {s t u : State} (selects : Selects l s t) (selected : u.selected = t.selected)
    (otherwise : (u.line l).mon.otherwise = (t.line l).mon.otherwise) : Selects l s u := by
  unfold Selects State.chosen KeepsChoice at *
  rw [selected, otherwise]
  exact selects

theorem rejudge_selects (l : LineNo) (s : State) : Selects l s (rejudge l s) := by
  obtain ⟨line, -, selection, -⟩ := rejudge_spec l s
  have judged : ((rejudge l s).line l).mon.otherwise = qualifies (s.lineSetup l) (s.line l) := by
    rw [line]
    exact (judge_spec _ _ _).1
  unfold Selects State.chosen KeepsChoice
  by_cases drops : (s.line l).mon.otherwise = true ∧ qualifies (s.lineSetup l) (s.line l) = false ∧ s.selected = some l
  · rw [if_pos drops] at selection
    rw [(Prod.mk.inj selection).1, drops.2.2, judged, drops.2.1]
    exact ⟨fun m other => by simpa using fun h => other h.symm, fun h => absurd h (by simp), fun _ _ => rfl⟩
  · rw [if_neg drops] at selection
    rw [(Prod.mk.inj selection).1, judged]
    refine ⟨fun _ _ => rfl, fun h => ⟨h, fun was => ?_⟩, fun h g => absurd (h.symm.trans g) (by decide)⟩
    cases fits : qualifies (s.lineSetup l) (s.line l) with
    | true => rfl
    | false => exact absurd ⟨was, fits, by simpa using h⟩ drops

/-- A test of condition `c` on line `l` took the part from `s` to `t`. -/
def Tests (c : LineCond) (l : LineNo) (s t : State) : Prop :=
  OnlyJudged l s t ∧ Tested c (s.lineSetup l) (s.line l) (t.line l) ∧ Selects l s t

theorem Tests.refl (c : LineCond) (l : LineNo) (s : State) : Tests c l s s := ⟨.refl l s, .refl c _ _, .of_same rfl rfl⟩

theorem onlyJudged_setRun (s : State) (l : LineNo) (c : LineCond) (n : Nat) : OnlyJudged l s (s.onMon l fun m => m.setRun c n) :=
  .of_line (onlyLine_onMon s l _)

theorem otherwise_setRun (s : State) (l : LineNo) (c : LineCond) (n : Nat) :
    ((s.onMon l fun m => m.setRun c n).line l).mon.otherwise = (s.line l).mon.otherwise := by
  rw [State.onMon_line]
  cases c <;> rfl

theorem Tests.then_setRun {c : LineCond} {l : LineNo} {s t : State} (tests : Tests c l s t) (n : Nat) :
    Tests c l s (t.onMon l fun m => m.setRun c n) := by
  obtain ⟨only, tested, selects⟩ := tests
  refine ⟨only.trans (onlyJudged_setRun t l c n), ?_, selects.after rfl (otherwise_setRun t l c n)⟩
  rw [State.onMon_line]
  exact tested.setRun n

theorem Tests.after_setRun {c : LineCond} {l : LineNo} {s t : State} {n : Nat}
    (tests : Tests c l (s.onMon l fun m => m.setRun c n) t) : Tests c l s t := by
  obtain ⟨only, tested, selects⟩ := tests
  rw [State.onMon_line] at tested
  exact ⟨(onlyJudged_setRun s l c n).trans only, tested.after_setRun, selects.before rfl (otherwise_setRun s l c n)⟩

theorem raise_tests {c : LineCond} (own : c.ofMonitor) (l : LineNo) (s : State) :
    Tests c l s (raise c l s) ∧ ((raise c l s).line l).live c = true
      ∧ ((raise c l s).line l).mon.run c = (s.line l).mon.run c := by
  unfold raise
  split
  · next live => exact ⟨.refl c l s, live, rfl⟩
  · next quiet =>
    obtain ⟨x, set⟩ : ∃ x : Line, x = { (s.line l).setLive c true with
        mon := { ((s.line l).setLive c true).mon with latched := ((s.line l).setLive c true).mon.latched.put c true } } := ⟨_, rfl⟩
    have line : (rejudge l (s.setLine l x)).line l = { x with mon := judge (s.lineSetup l) (qualifies (s.lineSetup l) x) x.mon } := by
      rw [(rejudge_spec l _).1, State.setLine_line]
      rfl
    obtain ⟨tested, live, run⟩ := tested_of_set own (s.lineSetup l) set (by simpa using quiet)
      (fun d other => by rw [LineFlags.get_put, if_neg other, ((s.line l).setLive_frame c true).2.2.2.1])
      (fun _ => by rw [LineFlags.get_put, if_pos rfl])
    dsimp only
    rw [← set]
    refine ⟨⟨(OnlyJudged.of_line (onlyLine_setLine s l x)).trans (rejudge_only l _), by rw [line]; exact tested,
      (rejudge_selects l (s.setLine l x)).before rfl ?_⟩, by rw [line]; exact live, by rw [line]; exact run⟩
    rw [State.setLine_line, set]
    exact ((s.line l).setLive_frame c true).2.2.2.2.1

theorem release_tests {c : LineCond} (own : c.ofMonitor) (l : LineNo) (s : State) :
    Tests c l s (release c l s) ∧ ((release c l s).line l).live c = false
      ∧ ((release c l s).line l).mon.run c = (s.line l).mon.run c := by
  unfold release
  split
  · next live =>
    obtain ⟨x, set⟩ : ∃ x : Line, x = (s.line l).setLive c false := ⟨_, rfl⟩
    have line : (rejudge l (s.setLine l x)).line l = { x with mon := judge (s.lineSetup l) (qualifies (s.lineSetup l) x) x.mon } := by
      rw [(rejudge_spec l _).1, State.setLine_line]
      rfl
    have flags := ((s.line l).setLive_frame c false).2.2.2.1
    obtain ⟨tested, dead, run⟩ := tested_of_set (y := x) own (s.lineSetup l) (v := false) (flags := (s.line l).mon.latched)
      (by rw [set, ← flags]) live (fun d _ => rfl) (fun h => absurd h (by decide))
    rw [← set]
    refine ⟨⟨(OnlyJudged.of_line (onlyLine_setLine s l x)).trans (rejudge_only l _), by rw [line]; exact tested,
      (rejudge_selects l (s.setLine l x)).before rfl ?_⟩, by rw [line]; exact dead, by rw [line]; exact run⟩
    rw [State.setLine_line, set]
    exact ((s.line l).setLive_frame c false).2.2.2.2.1
  · next quiet => exact ⟨.refl c l s, by simpa using quiet, rfl⟩

/-! ### The test against a limit (R43, R45, R48) -/

/-- The verdict of a limit test: beyond, within, or none where a value is invalid. -/
def limitTest (c : LineCond) (verdict : Option Bool) (mask : Bool) (l : LineNo) (s : State) : State :=
  match verdict with
  | some true => (if mask then s else raise c l s).onMon l fun m => m.setRun c 0
  | some false =>
    if (s.line l).live c then
      if (s.line l).mon.run c + 1 = 4 then release c l (s.onMon l fun m => m.setRun c (nextRun ((s.line l).mon.run c)))
      else s.onMon l fun m => m.setRun c (nextRun ((s.line l).mon.run c))
    else s
  | none => s.onMon l fun m => m.setRun c 0

/-- What a limit test does to its condition and the release run. -/
def LimitRule (c : LineCond) (verdict : Option Bool) (mask : Bool) (x y : Line) : Prop :=
  match verdict with
  | some true => y.live c = (x.live c || !mask) ∧ y.mon.run c = 0
  | some false =>
    (x.live c = true → if x.mon.run c = 3 then y.live c = false ∧ y.mon.run c = 0
      else y.live c = true ∧ y.mon.run c = x.mon.run c + 1) ∧ (x.live c = false → y.live c = false)
  | none => y.live c = x.live c ∧ y.mon.run c = 0

theorem Monitor.run_setRun {c : LineCond} (runs : c ≠ .lof ∧ c ≠ .excess ∧ c ≠ .degraded) (m : Monitor) (n : Nat) :
    (m.setRun c n).run c = n := by
  obtain ⟨lof, excess, degraded⟩ := runs
  cases c
  case lof => exact absurd rfl lof
  case excess => exact absurd rfl excess
  case degraded => exact absurd rfl degraded
  all_goals rfl

theorem Line.live_setRun (x : Line) (c d : LineCond) (n : Nat) : ({ x with mon := x.mon.setRun c n } : Line).live d = x.live d := by
  cases c <;> cases d <;> rfl

theorem limitTest_spec {c : LineCond} (runs : c ≠ .lof ∧ c ≠ .excess ∧ c ≠ .degraded) (verdict : Option Bool) (mask : Bool)
    (l : LineNo) (s : State) :
    Tests c l s (limitTest c verdict mask l s) ∧ LimitRule c verdict mask (s.line l) ((limitTest c verdict mask l s).line l) := by
  have own : c.ofMonitor := ⟨runs.1, runs.2.1⟩
  unfold limitTest LimitRule
  match verdict with
  | some true =>
    dsimp only
    rw [State.onMon_line, Line.live_setRun, Monitor.run_setRun runs]
    cases mask with
    | true => exact ⟨(Tests.refl c l s).then_setRun 0, by simp, rfl⟩
    | false =>
      obtain ⟨tests, live, -⟩ := raise_tests own l s
      exact ⟨tests.then_setRun 0, by simpa using live, rfl⟩
  | none =>
    dsimp only
    rw [State.onMon_line, Line.live_setRun, Monitor.run_setRun runs]
    exact ⟨(Tests.refl c l s).then_setRun 0, rfl, rfl⟩
  | some false =>
    dsimp only
    by_cases live : (s.line l).live c = true
    · rw [if_pos live]
      unfold nextRun
      by_cases fourth : (s.line l).mon.run c + 1 = 4
      · rw [if_pos fourth, if_pos fourth]
        obtain ⟨tests, dead, run⟩ := release_tests own l (s.onMon l fun m => m.setRun c 0)
        rw [State.onMon_line, Monitor.run_setRun runs] at run
        refine ⟨tests.after_setRun, fun _ => ?_, fun _ => dead⟩
        rw [if_pos (by omega)]
        exact ⟨dead, run⟩
      · rw [if_neg fourth, if_neg fourth, State.onMon_line, Line.live_setRun, Monitor.run_setRun runs, live]
        refine ⟨(Tests.refl c l s).then_setRun _, fun _ => ?_, fun h => h⟩
        rw [if_neg (by omega)]
        exact ⟨rfl, rfl⟩
    · rw [if_neg live]
      exact ⟨.refl c l s, fun h => absurd h live, fun h => h⟩

/-- Beyond, within or invalid: the verdict on a distance. -/
def limitVerdict (limit : Nat) (distance : Option Int) : Option Bool := distance.map fun d => decide (limit < d.natAbs)

/-- The change of drift (R43). -/
def driftChange (m : Monitor) : Option Int := m.handedDrift.bind fun d => m.prevDrift.map fun p => d - p

/-- The distance from the reference drift (R45). -/
def driftFrom (reference : Option Int) (m : Monitor) : Option Int := m.handedDrift.bind fun d => reference.map fun r => d - r

theorem testWander_eq (s : State) (l : LineNo) : testWander s l
    = limitTest .wander (limitVerdict (s.lineSetup l).wanderLimit (driftChange (s.line l).mon)) (s.lineSetup l).maskWander l s := by
  unfold testWander limitTest limitVerdict driftChange
  dsimp only
  cases (s.line l).mon.handedDrift with
  | none => rfl
  | some d =>
    cases (s.line l).mon.prevDrift with
    | none => rfl
    | some p =>
      dsimp only [Option.bind_some, Option.map_some]
      by_cases beyond : (s.lineSetup l).wanderLimit < (d - p).natAbs
      · rw [if_pos beyond, decide_eq_true beyond]
        rfl
      · rw [if_neg beyond, decide_eq_false beyond]
        rfl

theorem testDiverge_eq (reference : Option Int) (s : State) (l : LineNo) : testDiverge reference s l
    = limitTest .diverge (limitVerdict (s.lineSetup l).divergeLimit (driftFrom reference (s.line l).mon)) (s.lineSetup l).maskDiverge
        l s := by
  unfold testDiverge limitTest limitVerdict driftFrom
  dsimp only
  cases (s.line l).mon.handedDrift with
  | none => rfl
  | some d =>
    cases reference with
    | none => rfl
    | some r =>
      dsimp only [Option.bind_some, Option.map_some]
      by_cases beyond : (s.lineSetup l).divergeLimit < (d - r).natAbs
      · rw [if_pos beyond, decide_eq_true beyond]
        rfl
      · rw [if_neg beyond, decide_eq_false beyond]
        rfl

/-- CROSSCHECK is tested for its release alone: a drift beyond the limit counts as one that is not valid (R48). -/
def crossVerdict (drift : Option Int) : Option Bool := drift.bind fun d => if d.natAbs ≤ 32 then some false else none

theorem testCrosscheck_eq (s : State) (l : LineNo) : testCrosscheck s l
    = if (s.line l).mon.crosscheck then limitTest .crosscheck (crossVerdict (s.line l).mon.handedDrift) true l s else s := by
  unfold testCrosscheck limitTest crossVerdict
  dsimp only
  cases live : (s.line l).mon.crosscheck with
  | false => rfl
  | true =>
    cases (s.line l).mon.handedDrift with
    | none => rfl
    | some d =>
      by_cases within : d.natAbs ≤ 32
      · have here : (s.line l).live .crosscheck = true := live
        dsimp only [Option.bind_some]
        rw [if_pos within, if_pos (show d.natAbs ≤ Config.crosscheckLimit from within)]
        dsimp only
        rw [if_pos here]
        rfl
      · dsimp only [Option.bind_some]
        rw [if_neg within, if_neg (show ¬ d.natAbs ≤ Config.crosscheckLimit from within)]
        rfl

end Sys2Proof.Machine
end

section
/-! MONITOR_EPOCH_WORK: the four passes over the enabled lines, and the epoch choice (03, sections 3.2 to 3.6). -/

namespace Sys2Proof.Machine

/-! ### A pass over lines -/

/-- Between `s` and `t` nothing but the lines, the selection and its loss differs. -/
def OnlyLines (s t : State) : Prop := { t with lines := s.lines, selected := s.selected, lostNotice := s.lostNotice } = s

theorem OnlyLines.trans {s t u : State} (first : OnlyLines s t) (second : OnlyLines t u) : OnlyLines s u :=
  (congrArg (fun x : State => { x with lines := s.lines, selected := s.selected, lostNotice := s.lostNotice }) second :).trans first

/-- A pass whose step on a line, under the setup that stands, relates that line and its choice before and after, and moves no other. -/
theorem forLines_relates {R : LineNo → Line → Bool → Line → Bool → Prop} {f : State → LineNo → State} {s : State}
    (only : ∀ t l, OnlyJudged l t (f t l)) (keeps : ∀ t l m, m ≠ l → (f t l).chosen m = t.chosen m)
    (relates : ∀ t l, t.setup = s.setup → R l (t.line l) (t.chosen l) ((f t l).line l) ((f t l).chosen l)) {ls : List LineNo}
    (nodup : ls.Nodup) {t : State} (setup : t.setup = s.setup) :
    (∀ m ∈ ls, R m (t.line m) (t.chosen m) ((t.forLines ls f).line m) ((t.forLines ls f).chosen m))
      ∧ (∀ m, m ∉ ls → (t.forLines ls f).line m = t.line m ∧ (t.forLines ls f).chosen m = t.chosen m)
      ∧ OnlyLines t (t.forLines ls f) := by
  induction ls generalizing t with
  | nil => exact ⟨fun m member => absurd member List.not_mem_nil, fun _ _ => ⟨rfl, rfl⟩, rfl⟩
  | cons l ls ih =>
    obtain ⟨fresh, nodup⟩ := List.nodup_cons.mp nodup
    obtain ⟨others, rest⟩ := only t l
    obtain ⟨inside, outside, frame⟩ := ih (t := f t l) nodup ((congrArg State.setup rest :).trans setup)
    refine ⟨fun m member => ?_, fun m absent => ?_, OnlyLines.trans (t := f t l) rest frame⟩
    · obtain rfl | tail := List.mem_cons.mp member
      · change R m (t.line m) (t.chosen m) (((f t m).forLines ls f).line m) (((f t m).forLines ls f).chosen m)
        rw [(outside m fresh).1, (outside m fresh).2]
        exact relates t m setup
      · have other : m ≠ l := fun e => fresh (e ▸ tail)
        have := inside m tail
        rwa [others m other, keeps t l m other] at this
    · rw [List.mem_cons, not_or] at absent
      exact ⟨(outside m absent.2).1.trans (others m absent.1), (outside m absent.2).2.trans (keeps t l m absent.1)⟩

/-! ### The first two passes (R43 to R48) -/

/-- DEGRADED by the parity count (R46). -/
def DegradedRule (u : LineSetup) (x y : Line) : Prop :=
  y.mon.degraded = if u.parityLimit < x.mon.handedParity then x.mon.degraded || !u.maskDegraded else false

theorem testDegraded_spec (s : State) (l : LineNo) :
    Tests .degraded l s (testDegraded s l) ∧ DegradedRule (s.lineSetup l) (s.line l) ((testDegraded s l).line l) := by
  have own : LineCond.degraded.ofMonitor := ⟨by decide, by decide⟩
  unfold testDegraded DegradedRule
  dsimp only
  by_cases beyond : (s.lineSetup l).parityLimit < (s.line l).mon.handedParity
  · rw [if_pos beyond, if_pos beyond]
    cases (s.lineSetup l).maskDegraded with
    | true => exact ⟨.refl _ l s, by simp⟩
    | false =>
      obtain ⟨tests, live, -⟩ := raise_tests own l s
      exact ⟨tests, by simpa [Line.live] using live⟩
  · rw [if_neg beyond, if_neg beyond]
    obtain ⟨tests, dead, -⟩ := release_tests own l s
    exact ⟨tests, dead⟩

/-- CROSSCHECK's release (R48). -/
def CrossRule (x y : Line) : Prop :=
  (x.mon.crosscheck = true → LimitRule .crosscheck (crossVerdict x.mon.handedDrift) true x y)
    ∧ (x.mon.crosscheck = false → y.mon.crosscheck = false)

theorem testCrosscheck_spec (s : State) (l : LineNo) :
    Tests .crosscheck l s (testCrosscheck s l) ∧ CrossRule (s.line l) ((testCrosscheck s l).line l) := by
  unfold CrossRule
  rw [testCrosscheck_eq]
  cases live : (s.line l).mon.crosscheck with
  | true =>
    obtain ⟨tests, rule⟩ := limitTest_spec (c := .crosscheck) ⟨by decide, by decide, by decide⟩
      (crossVerdict (s.line l).mon.handedDrift) true l s
    exact ⟨tests, fun _ => rule, fun h => absurd h (by decide)⟩
  | false => exact ⟨.refl _ l s, fun h => absurd h (by decide), fun _ => live⟩

/-- The tests of step 3 on one line, from line `x` with choice `p` to line `w` with choice `q`. -/
def TestedThrice (u : LineSetup) (reference : Option Int) (x : Line) (p : Bool) (w : Line) (q : Bool) : Prop :=
  ∃ y p1 z p2,
    (Tested .wander u x y ∧ LimitRule .wander (limitVerdict u.wanderLimit (driftChange x.mon)) u.maskWander x y
      ∧ KeepsChoice x p y p1)
    ∧ (Tested .diverge u y z ∧ LimitRule .diverge (limitVerdict u.divergeLimit (driftFrom reference y.mon)) u.maskDiverge y z
      ∧ KeepsChoice y p1 z p2)
    ∧ Tested .crosscheck u z w ∧ CrossRule z w ∧ KeepsChoice z p2 w q

theorem testLine_spec (reference : Option Int) (s : State) (l : LineNo) :
    OnlyJudged l s (testLine reference s l) ∧ (∀ m, m ≠ l → (testLine reference s l).chosen m = s.chosen m)
      ∧ TestedThrice (s.lineSetup l) reference (s.line l) (s.chosen l) ((testLine reference s l).line l)
          ((testLine reference s l).chosen l) := by
  unfold testLine
  obtain ⟨t, made, ⟨only, tested, others, keeps⟩, rule⟩ : ∃ t, testWander s l = t ∧ Tests .wander l s t
      ∧ LimitRule .wander (limitVerdict (s.lineSetup l).wanderLimit (driftChange (s.line l).mon)) (s.lineSetup l).maskWander
          (s.line l) (t.line l) :=
    ⟨_, testWander_eq s l, limitTest_spec ⟨by decide, by decide, by decide⟩ _ _ l s⟩
  have setup : t.lineSetup l = s.lineSetup l := (congrArg (fun v : State => v.lineSetup l) only.2 :)
  obtain ⟨v, made', ⟨only', tested', others', keeps'⟩, rule'⟩ : ∃ v, testDiverge reference t l = v ∧ Tests .diverge l t v
      ∧ LimitRule .diverge (limitVerdict (t.lineSetup l).divergeLimit (driftFrom reference (t.line l).mon)) (t.lineSetup l).maskDiverge
          (t.line l) (v.line l) :=
    ⟨_, testDiverge_eq reference t l, limitTest_spec ⟨by decide, by decide, by decide⟩ _ _ l t⟩
  obtain ⟨⟨only'', tested'', others'', keeps''⟩, rule''⟩ := testCrosscheck_spec v l
  have setup' : v.lineSetup l = s.lineSetup l := (congrArg (fun v : State => v.lineSetup l) only'.2 :).trans setup
  rw [setup] at tested' rule'
  rw [setup'] at tested''
  rw [made, made']
  exact ⟨(only.trans only').trans only'', fun m other => (others'' m other).trans ((others' m other).trans (others m other)),
    _, _, _, _, ⟨tested, rule, keeps⟩, ⟨tested', rule', keeps'⟩, tested'', rule'', keeps''⟩

/-! ### The reference drift (R44) -/

theorem closer_none_right (a : Option Int) : closer a none = a := by cases a <;> rfl

/-- Lines that hand the same drifts give the same reference. -/
theorem referenceDrift_congr {s t : State} (enabled : t.setup = s.setup) (same : ∀ l, (t.line l).mon.handedDrift = (s.line l).mon.handedDrift) :
    referenceDrift t = referenceDrift s := by
  have lines : t.enabledLines = s.enabledLines := by
    unfold State.enabledLines State.enabled State.lineSetup
    rw [enabled]
  unfold referenceDrift
  rw [lines]
  simp only [same]

/-- The fold of `closer` over lines in ascending order finds the smallest drift, the lower line on a tie. -/
theorem foldl_closer {drift : LineNo → Option Int} {m : LineNo} {r : Int} (valid : drift m = some r) (ls : List LineNo)
    (ascending : ls.Pairwise (· < ·)) (least : ∀ k ∈ ls, ∀ x, drift k = some x → r.natAbs < x.natAbs ∨ (r.natAbs = x.natAbs ∧ m ≤ k)) :
    (m ∈ ls → ∀ a : Option Int, (∀ y, a = some y → r.natAbs < y.natAbs) → ls.foldl (fun a l => closer a (drift l)) a = some r)
      ∧ ((∀ k ∈ ls, m < k) → ls.foldl (fun a l => closer a (drift l)) (some r) = some r) := by
  induction ls with
  | nil => exact ⟨fun member => absurd member List.not_mem_nil, fun _ => rfl⟩
  | cons k ls ih =>
    obtain ⟨below, ascending⟩ := List.pairwise_cons.mp ascending
    obtain ⟨finds, keeps⟩ := ih ascending fun j member => least j (List.mem_cons_of_mem k member)
    refine ⟨fun member a worse => ?_, fun above => ?_⟩
    · rw [List.foldl_cons]
      obtain rfl | tail := List.mem_cons.mp member
      · have taken : closer a (drift m) = some r := by
          rw [valid]
          cases a with
          | none => rfl
          | some y => exact if_pos (worse y rfl)
        rw [taken]
        exact keeps below
      · refine finds tail _ fun y taken => ?_
        have lower := below m tail
        cases handed : drift k with
        | none =>
          rw [handed, closer_none_right] at taken
          exact worse y taken
        | some x =>
          have strict : r.natAbs < x.natAbs :=
            (least k (List.mem_cons_self ..) x handed).resolve_right fun tie => absurd tie.2 (not_le.mpr lower)
          rw [handed] at taken
          cases a with
          | none => exact Option.some.inj taken ▸ strict
          | some v =>
            unfold closer at taken
            dsimp only at taken
            split at taken
            · exact Option.some.inj taken ▸ strict
            · exact worse y taken
    · rw [List.foldl_cons]
      have stays : closer (some r) (drift k) = some r := by
        cases handed : drift k with
        | none => rfl
        | some x =>
          refine if_neg ?_
          have := least k (List.mem_cons_self ..) x handed
          omega
      rw [stays]
      exact keeps fun j member => above j (List.mem_cons_of_mem k member)

theorem enabledLines_ascending (s : State) : s.enabledLines.Pairwise (· < ·) := List.Pairwise.filter _ (by decide)

/-- The reference drift is the valid drift of smallest magnitude, that of the lower line on a tie. -/
theorem referenceDrift_eq {s : State} {m : LineNo} {r : Int} (enabled : s.enabled m = true) (valid : (s.line m).mon.handedDrift = some r)
    (least : ∀ k x, s.enabled k = true → (s.line k).mon.handedDrift = some x → |r| < |x| ∨ (|r| = |x| ∧ m ≤ k)) :
    referenceDrift s = some r := by
  refine (foldl_closer (drift := fun l => (s.line l).mon.handedDrift) valid s.enabledLines (enabledLines_ascending s)
    fun k member x handed => ?_).1 ((mem_enabledLines s m).mpr enabled) none fun y h => absurd h (by simp)
  have := least k x ((mem_enabledLines s k).mp member) handed
  rw [Int.abs_eq_natAbs, Int.abs_eq_natAbs] at this
  obtain less | ⟨tie, lower⟩ := this
  · exact .inl (by omega)
  · exact .inr ⟨by omega, lower⟩

/-! ### The whole work (R41) -/

/-- What the epoch work has done to an enabled line and its choice before the selector's, with reference drift `reference` (R41 steps 1
to 5). -/
structure Worked (u : LineSetup) (reference : Option Int) (x : Line) (p : Bool) (y : Line) (q : Bool) : Prop where
  frame : y = { x with mon := y.mon }
  degraded : DegradedRule u x y
  wander : LimitRule .wander (limitVerdict u.wanderLimit (driftChange x.mon)) u.maskWander x y
  diverge : LimitRule .diverge (limitVerdict u.divergeLimit (driftFrom reference x.mon)) u.maskDiverge x y
  cross : CrossRule x y
  latches : ∀ c, c.ofMonitor → y.live c = true → x.live c = false → y.mon.latched.get c = true
  phase : y.mon.handedPhase = x.mon.handedPhase
  drift : y.mon.handedDrift = x.mon.handedDrift
  parity : y.mon.handedParity = x.mon.handedParity
  prevDrift : y.mon.prevDrift = x.mon.handedDrift
  crossRun : y.mon.crossRun = x.mon.crossRun
  sound : x.mon.otherwise = qualifies u x → y.mon.otherwise = qualifies u y
  waits : ∃ m : Monitor, x.mon.Waits u m ∧ m.otherwise = y.mon.otherwise ∧ y.mon.wtr = (m.countDown x.mon.otherwise).wtr
    ∧ y.mon.candidate = (m.countDown x.mon.otherwise).candidate
    ∧ (x.mon.otherwise = true → qualifies u x = true → m.otherwise = true → x.mon.SameWait m ∧ (p = true → q = true))
  choice : q = true → p = true ∧ (x.mon.otherwise = true → y.mon.otherwise = true)

/-- A line that is otherwise qualified has none of the monitors' conditions. -/
theorem qualifies_quiet {u : LineSetup} {x : Line} (q : qualifies u x = true) {c : LineCond} (own : c.ofMonitor) : x.live c = false := by
  simp only [qualifies, Bool.and_eq_true, Bool.not_eq_true'] at q
  cases c
  case lof => exact absurd rfl own.1
  case excess => exact absurd rfl own.2
  all_goals simp [Line.live, q]

/-- A limit rule reads the condition and its run alone. -/
theorem LimitRule.of_same {c : LineCond} {verdict : Option Bool} {mask : Bool} {x y x' y' : Line} (rule : LimitRule c verdict mask x y)
    (live : x'.live c = x.live c) (run : x'.mon.run c = x.mon.run c) (live' : y'.live c = y.live c)
    (run' : y'.mon.run c = y.mon.run c) : LimitRule c verdict mask x' y' := by
  unfold LimitRule at *
  rw [live, run, live', run']
  exact rule

theorem Monitor.countDown_keeps (m : Monitor) (before : Bool) (p : Option Int) :
    ({ m with prevDrift := p } : Monitor).countDown before = { m with
      prevDrift := p, wtr := (m.countDown before).wtr, candidate := (m.countDown before).candidate } := by
  unfold Monitor.countDown
  dsimp only
  split <;> rfl

/-- A selected line that stays otherwise qualified stays selected. -/
theorem KeepsChoice.stays {x y : Line} {p q : Bool} (keeps : KeepsChoice x p y q) (chosen : p = true) (still : y.mon.otherwise = true) :
    q = true := by
  cases q with
  | true => rfl
  | false => exact absurd ((keeps.2 chosen rfl).symm.trans still) (by decide)

/-- The rules of the four tests in a row, and the keeping of the drift and the count-down. -/
theorem worked_of_tests {u : LineSetup} {reference : Option Int} {x v w : Line} {p p0 q : Bool} (first : Tested .degraded u x v)
    (rule : DegradedRule u x v) (keeps : KeepsChoice x p v p0) (thrice : TestedThrice u reference v p0 w q) {y : Line}
    (last : y = { w with mon := ({ w.mon with prevDrift := w.mon.handedDrift } : Monitor).countDown x.mon.otherwise }) :
    Worked u reference x p y q := by
  obtain ⟨a, p1, b, p2, ⟨second, rule2, keeps2⟩, ⟨third, rule3, keeps3⟩, fourth, rule4, keeps4⟩ := thrice
  rw [Monitor.countDown_keeps] at last
  have live : ∀ d, y.live d = w.live d := fun d => by
    rw [last]
    cases d <;> rfl
  have run : ∀ d, y.mon.run d = w.mon.run d := fun d => by
    rw [last]
    cases d <;> rfl
  have drift : b.mon.handedDrift = x.mon.handedDrift := third.drift.trans (second.drift.trans first.drift)
  have change : driftChange v.mon = driftChange x.mon := by
    unfold driftChange
    rw [first.drift, first.prevDrift]
  have from_ : driftFrom reference a.mon = driftFrom reference x.mon := by
    unfold driftFrom
    rw [second.drift, first.drift]
  rw [change] at rule2
  rw [from_] at rule3
  have degradedLive : y.live .degraded = v.live .degraded := (live _).trans ((fourth.live _ (by decide)).trans
    ((third.live _ (by decide)).trans (second.live _ (by decide))))
  have wanderLive : y.live .wander = a.live .wander :=
    (live _).trans ((fourth.live _ (by decide)).trans (third.live _ (by decide)))
  have divergeLive : y.live .diverge = b.live .diverge := (live _).trans (fourth.live _ (by decide))
  have crossBefore : b.live .crosscheck = x.live .crosscheck := (third.live _ (by decide)).trans
    ((second.live _ (by decide)).trans (first.live _ (by decide)))
  have divergeBefore : a.live .diverge = x.live .diverge := (second.live _ (by decide)).trans (first.live _ (by decide))
  have wanderBefore : v.live .wander = x.live .wander := first.live _ (by decide)
  have latched : y.mon.latched = w.mon.latched := by rw [last]
  exact {
    frame := by rw [last, fourth.frame, third.frame, second.frame, first.frame]
    degraded := degradedLive.trans rule
    wander := rule2.of_same wanderBefore.symm (first.run _ (by decide)).symm wanderLive
      ((run _).trans ((fourth.run _ (by decide)).trans (third.run _ (by decide))))
    diverge := rule3.of_same divergeBefore.symm
      ((second.run _ (by decide)).trans (first.run _ (by decide))).symm divergeLive ((run _).trans (fourth.run _ (by decide)))
    cross := ⟨fun h => by
        have h' : b.mon.crosscheck = true := crossBefore.trans h
        have ruled := rule4.1 h'
        rw [drift] at ruled
        exact ruled.of_same crossBefore.symm ((third.run _ (by decide)).trans ((second.run _ (by decide)).trans
          (first.run _ (by decide)))).symm (live _) (run _),
      fun h => (live .crosscheck).trans (rule4.2 (crossBefore.trans h))⟩
    latches := fun c own now before => by
      rw [latched]
      cases c
      case lof => exact absurd rfl own.1
      case excess => exact absurd rfl own.2
      case degraded =>
        rw [fourth.flags _ (by decide), third.flags _ (by decide), second.flags _ (by decide)]
        exact first.latches (degradedLive.symm.trans now) before
      case wander =>
        rw [fourth.flags _ (by decide), third.flags _ (by decide)]
        exact second.latches (wanderLive.symm.trans now) (wanderBefore.trans before)
      case diverge =>
        rw [fourth.flags _ (by decide)]
        exact third.latches (divergeLive.symm.trans now) (divergeBefore.trans before)
      case crosscheck => exact fourth.latches ((live _).symm.trans now) (crossBefore.trans before)
    phase := by rw [last]; exact fourth.phase.trans (third.phase.trans (second.phase.trans first.phase))
    drift := by rw [last]; exact fourth.drift.trans drift
    parity := by rw [last]; exact fourth.parity.trans (third.parity.trans (second.parity.trans first.parity))
    prevDrift := by rw [last]; exact fourth.drift.trans drift
    crossRun := by rw [last]; exact fourth.crossRun.trans (third.crossRun.trans (second.crossRun.trans first.crossRun))
    sound := fun sound => by
      have qualified : qualifies u y = qualifies u w := by rw [last]; rfl
      rw [qualified, last]
      exact fourth.sound (third.sound (second.sound (first.sound sound)))
    waits := by
      refine ⟨w.mon, ((first.waits.trans second.waits).trans third.waits).trans fourth.waits, by rw [last], by rw [last],
        by rw [last], fun was sound still => ?_⟩
      have quiet := fun c own => qualifies_quiet sound (c := c) own
      have end_ : qualifies u w = true :=
        (fourth.sound (third.sound (second.sound (first.sound (was.trans sound.symm))))).symm.trans still
      have silent := fun c own => qualifies_quiet end_ (c := c) own
      have d := first.stands (quiet _ ⟨by decide, by decide⟩)
        (degradedLive.symm.trans ((live _).trans (silent _ ⟨by decide, by decide⟩)))
      have e := second.stands (wanderBefore.trans (quiet _ ⟨by decide, by decide⟩))
        (wanderLive.symm.trans ((live _).trans (silent _ ⟨by decide, by decide⟩)))
      have f := third.stands (divergeBefore.trans (quiet _ ⟨by decide, by decide⟩))
        (divergeLive.symm.trans ((live _).trans (silent _ ⟨by decide, by decide⟩)))
      have g := fourth.stands (crossBefore.trans (quiet _ ⟨by decide, by decide⟩)) (silent _ ⟨by decide, by decide⟩)
      have v1 := d.1.trans was
      have a1 := e.1.trans v1
      have b1 := f.1.trans a1
      refine ⟨⟨g.1.trans (f.1.trans (e.1.trans d.1)), g.2.1.trans (f.2.1.trans (e.2.1.trans d.2.1)),
        g.2.2.trans (f.2.2.trans (e.2.2.trans d.2.2))⟩, fun chosen => ?_⟩
      exact keeps4.stays (keeps3.stays (keeps2.stays (keeps.stays chosen v1) a1) b1) still
    choice := fun chosen => by
      obtain ⟨c3, stays4⟩ := keeps4.1 chosen
      obtain ⟨c2, stays3⟩ := keeps3.1 c3
      obtain ⟨c1, stays2⟩ := keeps2.1 c2
      obtain ⟨c0, stays1⟩ := keeps.1 c1
      refine ⟨c0, fun was => ?_⟩
      rw [last]
      exact stays4 (stays3 (stays2 (stays1 was))) }

theorem lineSetup_of_setup {s t : State} (h : t.setup = s.setup) (l : LineNo) : t.lineSetup l = s.lineSetup l := by
  unfold State.lineSetup
  rw [h]

theorem enabledLines_of_setup {s t : State} (h : t.setup = s.setup) : t.enabledLines = s.enabledLines := by
  unfold State.enabledLines State.enabled
  simp only [lineSetup_of_setup h]

/-- A pass over the enabled lines from a part `t` with the setup of `s`. -/
theorem pass_spec {R : LineNo → Line → Bool → Line → Bool → Prop} {f : State → LineNo → State} (s : State)
    (step : ∀ t l, t.setup = s.setup → R l (t.line l) (t.chosen l) ((f t l).line l) ((f t l).chosen l))
    (only : ∀ t l, OnlyJudged l t (f t l)) (keeps : ∀ t l m, m ≠ l → (f t l).chosen m = t.chosen m) {t : State}
    (setup : t.setup = s.setup) :
    ∃ v, t.forLines t.enabledLines f = v ∧ (∀ l, s.enabled l = true → R l (t.line l) (t.chosen l) (v.line l) (v.chosen l))
      ∧ (∀ l, s.enabled l = false → v.line l = t.line l ∧ v.chosen l = t.chosen l) ∧ OnlyLines t v ∧ v.setup = s.setup := by
  rw [enabledLines_of_setup setup]
  obtain ⟨inside, outside, frame⟩ := forLines_relates (s := s) only keeps step (enabledLines_nodup s) setup
  refine ⟨_, rfl, fun l on => inside l ((mem_enabledLines s l).mpr on), fun l off => outside l fun member => ?_, frame,
    (congrArg State.setup frame :).trans setup⟩
  exact absurd (off.symm.trans ((mem_enabledLines s l).mp member)) (by decide)

/-- A pass that rewrites each monitor on its own and judges nothing. -/
theorem rewrite_spec (s : State) (g : LineNo → Monitor → Monitor) {t : State} (setup : t.setup = s.setup) :
    ∃ v, (t.forLines t.enabledLines fun t l => t.onMon l (g l)) = v
      ∧ (∀ l, s.enabled l = true → v.line l = { t.line l with mon := g l (t.line l).mon } ∧ v.chosen l = t.chosen l)
      ∧ (∀ l, s.enabled l = false → v.line l = t.line l ∧ v.chosen l = t.chosen l) ∧ OnlyLines t v ∧ v.setup = s.setup :=
  pass_spec s (f := fun t l => t.onMon l (g l)) (R := fun l x p y q => y = { x with mon := g l x.mon } ∧ q = p)
    (fun t l _ => ⟨State.onMon_line t l _, rfl⟩) (fun t l => .of_line (onlyLine_onMon t l _)) (fun _ _ _ _ => rfl) setup

/-- The epoch work: every enabled line is worked on its own, and the selector then chooses (R41). -/
theorem monitorWork_spec (s : State) : ∃ v, monitorWork s = { v with selected := epochChoice v }
    ∧ (∀ l, s.enabled l = true → Worked (s.lineSetup l) (referenceDrift s) (s.line l) (s.chosen l) (v.line l) (v.chosen l))
    ∧ (∀ l, s.enabled l = false → v.line l = s.line l ∧ v.chosen l = s.chosen l) ∧ OnlyLines s v := by
  obtain ⟨a, passA, insideA, outsideA, frameA, setupA⟩ := pass_spec s (f := testDegraded)
    (R := fun l x p y q => (Tested .degraded (s.lineSetup l) x y ∧ KeepsChoice x p y q) ∧ DegradedRule (s.lineSetup l) x y)
    (fun t l setup => lineSetup_of_setup setup l ▸
      ⟨⟨(testDegraded_spec t l).1.2.1, (testDegraded_spec t l).1.2.2.2⟩, (testDegraded_spec t l).2⟩)
    (fun t l => (testDegraded_spec t l).1.1) (fun t l => (testDegraded_spec t l).1.2.2.1) (t := s) rfl
  have reference : referenceDrift a = referenceDrift s := referenceDrift_congr setupA fun l => by
    cases on : s.enabled l with
    | true => exact (insideA l on).1.1.drift
    | false => rw [(outsideA l on).1]
  obtain ⟨b, passB, insideB, outsideB, frameB, setupB⟩ := pass_spec s (f := testLine (referenceDrift a))
    (R := fun l x p y q => TestedThrice (s.lineSetup l) (referenceDrift a) x p y q)
    (fun t l setup => lineSetup_of_setup setup l ▸ (testLine_spec (referenceDrift a) t l).2.2)
    (fun t l => (testLine_spec (referenceDrift a) t l).1) (fun t l => (testLine_spec (referenceDrift a) t l).2.1) setupA
  obtain ⟨c, passC, insideC, outsideC, frameC, setupC⟩ := rewrite_spec s (fun _ m => { m with prevDrift := m.handedDrift }) setupB
  obtain ⟨d, passD, insideD, outsideD, frameD, -⟩ := rewrite_spec s (fun l m => m.countDown (s.line l).mon.otherwise) setupC
  refine ⟨d, ?_, fun l on => ?_, fun l off => ?_, ((frameA.trans frameB).trans frameC).trans frameD⟩
  · unfold monitorWork keepDrift
    dsimp only
    rw [passA, passB, passC, passD]
  · obtain ⟨⟨first, keeps⟩, rule⟩ := insideA l on
    have thrice := insideB l on
    rw [reference] at thrice
    rw [(insideD l on).2, (insideC l on).2]
    exact worked_of_tests first rule keeps thrice (by rw [(insideD l on).1, (insideC l on).1])
  · exact ⟨(outsideD l off).1.trans ((outsideC l off).1.trans ((outsideB l off).1.trans (outsideA l off).1)),
      (outsideD l off).2.trans ((outsideC l off).2.trans ((outsideB l off).2.trans (outsideA l off).2))⟩

/-- The epoch work as the command runs it. -/
theorem exec_monitorEpochWork {s : State} (runs : s.running = true) : ∃ v : State,
    exec .monitorEpochWork s = .next { v with selected := epochChoice v }
      ∧ (∀ l, s.enabled l = true → Worked (s.lineSetup l) (referenceDrift s) (s.line l) (s.chosen l) (v.line l) (v.chosen l))
      ∧ (∀ l, s.enabled l = false → v.line l = s.line l ∧ v.chosen l = s.chosen l)
      ∧ OnlyMonitors s { v with selected := epochChoice v } ∧ v.setup = s.setup := by
  obtain ⟨v, work, inside, outside, frame⟩ := monitorWork_spec (s.took .monitorEpochWork)
  have run : exec .monitorEpochWork s = .next (monitorWork (s.took .monitorEpochWork)) :=
    congrArg Host.Outcome.next (if_pos runs)
  refine ⟨v, run.trans (congrArg Host.Outcome.next work), inside, outside, ⟨fun l => ?_, fun l off => (outside l off).1,
    (congrArg State.due frame :), (congrArg (fun x : State => { x with due := s.due }) frame :)⟩, (congrArg State.setup frame :)⟩
  change v.line l = { s.line l with mon := (v.line l).mon }
  cases on : s.enabled l with
  | true => exact (inside l on).frame
  | false =>
    rw [(outside l on).1]
    rfl

/-! ### The conditions (R43 to R46, R48) -/

/-- Settles O24, by `exec_monitorEpochWork`. -/
theorem parityCountSetsDegraded : Obligations.ParityCountSetsDegraded := by
  intro s runs
  obtain ⟨v, run, inside, -, only, -⟩ := exec_monitorEpochWork runs
  refine ⟨_, run, fun l on => ?_, only⟩
  have worked := inside l on
  exact ⟨worked.degraded, worked.latches .degraded ⟨by decide, by decide⟩, worked.prevDrift, worked.phase, worked.drift, worked.parity,
    worked.crossRun⟩

/-- What a limit test says of a distance `e` that is valid. -/
theorem LimitRule.of_distance {c : LineCond} {limit : Nat} {e : Int} {mask : Bool} {x y : Line}
    (rule : LimitRule c (limitVerdict limit (some e)) mask x y) :
    ((limit : Int) < |e| → y.live c = (x.live c || !mask) ∧ y.mon.run c = 0)
      ∧ (|e| ≤ (limit : Int) → x.live c = true → if x.mon.run c = 3 then y.live c = false ∧ y.mon.run c = 0
          else y.live c = true ∧ y.mon.run c = x.mon.run c + 1)
      ∧ (|e| ≤ (limit : Int) → x.live c = false → y.live c = false) := by
  rw [Int.abs_eq_natAbs]
  by_cases beyond : limit < e.natAbs
  · have verdict : limitVerdict limit (some e) = some true := congrArg some (decide_eq_true beyond)
    rw [verdict] at rule
    exact ⟨fun _ => rule, fun within => by omega, fun within => by omega⟩
  · have verdict : limitVerdict limit (some e) = some false := congrArg some (decide_eq_false beyond)
    rw [verdict] at rule
    exact ⟨fun far => by omega, fun _ => rule.1, fun _ => rule.2⟩

/-- Settles O25: the rule of the drift's change. -/
theorem driftChangeSetsWander : Obligations.DriftChangeSetsWander := by
  intro s runs _
  obtain ⟨v, run, inside, -, only, -⟩ := exec_monitorEpochWork runs
  refine ⟨_, run, fun l on => ⟨fun d p handed before => ?_, fun invalid => ?_⟩, only⟩
  · have worked := inside l on
    have distance : driftChange (s.line l).mon = some (d - p) := by
      unfold driftChange
      rw [handed, before]
      rfl
    have rule := worked.wander
    rw [distance] at rule
    obtain ⟨beyond, within, quiet⟩ := rule.of_distance
    exact ⟨fun far => ⟨(beyond far).1, (beyond far).2, worked.latches .wander ⟨by decide, by decide⟩⟩, within, quiet⟩
  · have rule := (inside l on).wander
    have distance : driftChange (s.line l).mon = none := by
      unfold driftChange
      obtain none | none := invalid
      · rw [none]
        rfl
      · rw [none]
        cases (s.line l).mon.handedDrift <;> rfl
    rw [distance] at rule
    exact rule

/-- Settles O26: the reference by `referenceDrift_eq`, then the rule of the distance from it. -/
theorem driftFromReferenceSetsDiverge : Obligations.DriftFromReferenceSetsDiverge := by
  intro s runs _
  obtain ⟨v, run, inside, -, only, -⟩ := exec_monitorEpochWork runs
  refine ⟨_, run, fun m r enabled valid least l d on handed => ?_, fun l on none => ?_, only⟩
  · have worked := inside l on
    have rule := worked.diverge
    have distance : driftFrom (referenceDrift s) (s.line l).mon = some (d - r) := by
      unfold driftFrom
      rw [handed, referenceDrift_eq enabled valid least]
      rfl
    rw [distance] at rule
    obtain ⟨beyond, within, quiet⟩ := rule.of_distance
    exact ⟨fun far => ⟨(beyond far).1, (beyond far).2, worked.latches .diverge ⟨by decide, by decide⟩⟩, within, quiet⟩
  · have rule := (inside l on).diverge
    have distance : driftFrom (referenceDrift s) (s.line l).mon = Option.none := by
      unfold driftFrom
      rw [none]
      rfl
    rw [distance] at rule
    exact rule

/-! ### The waits (R53, R54) -/

/-- The wait after the epoch work of a line that was judged soundly before it. -/
theorem Worked.wait {u : LineSetup} {reference : Option Int} {x y : Line} {p q : Bool} (worked : Worked u reference x p y q)
    (sound : x.mon.otherwise = qualifies u x) (candidate : x.mon.candidate = (x.mon.otherwise && x.mon.wtr == 0)) :
    y.mon.otherwise = qualifies u y
      ∧ (x.mon.otherwise = true → y.mon.otherwise = true → y.mon.wtr = x.mon.wtr - 1)
      ∧ (x.mon.otherwise ≠ y.mon.otherwise → y.mon.wtr = 16 * u.wtrCode)
      ∧ (x.mon.otherwise = false → y.mon.otherwise = false → y.mon.wtr = x.mon.wtr ∨ y.mon.wtr = 16 * u.wtrCode)
      ∧ y.mon.candidate = (y.mon.otherwise && y.mon.wtr == 0) := by
  obtain ⟨m, waits, otherwise, wtr, chosen, stands⟩ := worked.waits
  have counts : ∀ b, m.countDown b = if m.otherwise then
      { m with wtr := if b then m.wtr - 1 else m.wtr, candidate := (if b then m.wtr - 1 else m.wtr) == 0 } else m := fun b => rfl
  rw [counts, otherwise] at wtr chosen
  refine ⟨worked.sound sound, ?_⟩
  cases was : x.mon.otherwise with
  | true =>
    cases is : y.mon.otherwise with
    | true =>
      rw [was, is, if_pos rfl] at wtr chosen
      obtain ⟨⟨-, same, -⟩, -⟩ := stands was (sound.symm.trans was) (otherwise.trans is)
      have counted : y.mon.wtr = x.mon.wtr - 1 := by rw [wtr, ← same]; rfl
      refine ⟨fun _ _ => counted, fun h => absurd rfl h, fun h => absurd h (by decide), ?_⟩
      rw [chosen, counted, ← same]
      rfl
    | false =>
      rw [is, if_neg Bool.false_ne_true] at wtr chosen
      obtain ⟨same, -⟩ | ⟨loaded, taken⟩ := waits
      · exact absurd ((was.symm.trans same.symm).trans (otherwise.trans is)) (by decide)
      · exact ⟨fun _ h => absurd h (by decide), fun _ => wtr.trans loaded, fun h => absurd h (by decide),
          by rw [chosen, taken, otherwise, is]; rfl⟩
  | false =>
    cases is : y.mon.otherwise with
    | true =>
      rw [was, is, if_pos rfl] at wtr chosen
      obtain ⟨same, -⟩ | ⟨loaded, -⟩ := waits
      · exact absurd ((was.symm.trans same.symm).trans (otherwise.trans is)) (by decide)
      · refine ⟨fun h => absurd h (by decide), fun _ => wtr.trans loaded, fun _ h => absurd h (by decide), ?_⟩
        rw [chosen, wtr]
        rfl
    | false =>
      rw [is, if_neg Bool.false_ne_true] at wtr chosen
      refine ⟨fun h => absurd h (by decide), fun h => absurd rfl h, fun _ _ => ?_, ?_⟩
      · obtain ⟨-, same, -⟩ | ⟨loaded, -⟩ := waits
        · exact .inl (wtr.trans same)
        · exact .inr (wtr.trans loaded)
      · obtain ⟨-, -, same⟩ | ⟨-, taken⟩ := waits
        · rw [chosen, same, candidate, was]
          rfl
        · rw [chosen, taken, otherwise, is]
          rfl

/-- Settles O28, by `Worked.wait`. -/
theorem waitCountsDownToCandidacy : Obligations.WaitCountsDownToCandidacy := by
  intro s runs sound
  obtain ⟨v, run, inside, -, only, setup⟩ := exec_monitorEpochWork runs
  refine ⟨_, run, fun l on => ?_, only⟩
  have waited := (inside l on).wait (sound.otherwise l) (sound.candidate l)
  change (v.line l).mon.otherwise = qualifies (v.lineSetup l) (v.line l) ∧ _
  rw [lineSetup_of_setup setup]
  exact waited

/-! ### The choice (R56, R57) -/

theorem mem_candidates {s : State} {l : LineNo} : l ∈ candidates s ↔ s.enabled l = true ∧ (s.line l).mon.candidate = true := by
  unfold candidates
  rw [List.mem_filter, mem_enabledLines]

theorem betterLine_iff (s : State) (a b : LineNo) : betterLine s a b = true ↔
    (s.line a).lrx.grade < (s.line b).lrx.grade
      ∨ ((s.line a).lrx.grade = (s.line b).lrx.grade ∧ ((s.lineSetup a).priority < (s.lineSetup b).priority
        ∨ ((s.lineSetup a).priority = (s.lineSetup b).priority ∧ a.val < b.val))) := by
  simp [betterLine]

theorem betterLine_not_trans {s : State} {a b c : LineNo} (first : betterLine s a b = false) (second : betterLine s b c = false) :
    betterLine s a c = false := by
  rw [← Bool.not_eq_true, betterLine_iff] at *
  omega

theorem betterLine_asymm {s : State} {a b : LineNo} (better : betterLine s a b = true) : betterLine s b a = false := by
  rw [← Bool.not_eq_true]
  rw [betterLine_iff] at *
  omega

/-- The better of the best so far and a line. -/
def keepBest (s : State) (a : Option LineNo) (l : LineNo) : Option LineNo :=
  match a with
  | none => some l
  | some b => if betterLine s l b then some l else some b

theorem bestCandidate_eq (s : State) : bestCandidate s = (candidates s).foldl (keepBest s) none := rfl

/-- The best of a line and a list: one of them, and none of them comes before it. -/
theorem foldl_keepBest (s : State) (ls : List LineNo) (a : LineNo) : ∃ b, ls.foldl (keepBest s) (some a) = some b
    ∧ (b = a ∨ b ∈ ls) ∧ betterLine s a b = false ∧ ∀ x ∈ ls, betterLine s x b = false := by
  induction ls generalizing a with
  | nil =>
    refine ⟨a, rfl, .inl rfl, ?_, fun x member => absurd member List.not_mem_nil⟩
    rw [← Bool.not_eq_true, betterLine_iff]
    omega
  | cons l ls ih =>
    rw [List.foldl_cons, keepBest]
    by_cases better : betterLine s l a = true
    · rw [if_pos better]
      obtain ⟨b, found, among, ahead, rest⟩ := ih l
      exact ⟨b, found, .inr (List.mem_cons.mpr among), betterLine_not_trans (betterLine_asymm better) ahead,
        List.forall_mem_cons.mpr ⟨ahead, rest⟩⟩
    · rw [if_neg better]
      rw [Bool.not_eq_true] at better
      obtain ⟨b, found, among, ahead, rest⟩ := ih a
      exact ⟨b, found, among.imp_right (List.mem_cons_of_mem l), ahead,
        List.forall_mem_cons.mpr ⟨betterLine_not_trans better ahead, rest⟩⟩

/-- The best candidate (R56). -/
theorem bestCandidate_spec (s : State) : (bestCandidate s = none ∧ candidates s = [])
    ∨ ∃ b, bestCandidate s = some b ∧ b ∈ candidates s ∧ ∀ x ∈ candidates s, betterLine s x b = false := by
  rw [bestCandidate_eq]
  cases candidates s with
  | nil => exact .inl ⟨rfl, rfl⟩
  | cons l ls =>
    obtain ⟨b, found, among, ahead, rest⟩ := foldl_keepBest s ls l
    exact .inr ⟨b, found, List.mem_cons.mpr among, List.forall_mem_cons.mpr ⟨ahead, rest⟩⟩

/-- The choice where the selected line, if any, is a candidate (R56, R57). -/
theorem epochChoice_spec {s : State} (held : ∀ l, s.selected = some l → l ∈ candidates s) :
    (epochChoice s = none ↔ candidates s = [])
      ∧ ∀ b, epochChoice s = some b → b ∈ candidates s
        ∧ (∀ x ∈ candidates s, (s.line b).lrx.grade ≤ (s.line x).lrx.grade)
        ∧ (s.selected ≠ some b → ∀ x ∈ candidates s, betterLine s x b = false)
        ∧ (∀ c, s.selected = some c → c ≠ b → (s.line b).lrx.grade < (s.line c).lrx.grade) := by
  have grades : ∀ {x b}, betterLine s x b = false → (s.line b).lrx.grade ≤ (s.line x).lrx.grade := fun {x b} worse => by
    rw [← Bool.not_eq_true, betterLine_iff] at worse
    omega
  unfold epochChoice
  obtain ⟨best, empty⟩ | ⟨b, best, member, ahead⟩ := bestCandidate_spec s
  · rw [best]
    cases chosen : s.selected with
    | none => exact ⟨by simp [empty], fun b h => absurd h (by simp)⟩
    | some c => exact absurd (held c chosen) (by simp [empty])
  · have some : candidates s ≠ [] := List.ne_nil_of_mem member
    rw [best]
    cases chosen : s.selected with
    | none =>
      refine ⟨by simp [some], fun d h => ?_⟩
      obtain rfl := Option.some.inj h
      exact ⟨member, fun x among => grades (ahead x among), fun _ => ahead, fun c h => absurd h (by simp)⟩
    | some c =>
      dsimp only
      by_cases better : (s.line b).lrx.grade < (s.line c).lrx.grade
      · rw [if_pos better]
        refine ⟨by simp [some], fun d h => ?_⟩
        obtain rfl := Option.some.inj h
        exact ⟨member, fun x among => grades (ahead x among), fun _ => ahead, fun d h _ => Option.some.inj h ▸ better⟩
      · rw [if_neg better]
        refine ⟨by simp [some], fun d h => ?_⟩
        obtain rfl := Option.some.inj h
        refine ⟨held c chosen, fun x among => ?_, fun other => absurd rfl other, fun d h other => absurd (Option.some.inj h).symm other⟩
        have := grades (ahead x among)
        omega

/-- Settles O29: the waits by `Worked.wait`, the selection by `Worked.choice`, the choice by `epochChoice_spec`. -/
theorem choiceIsBestCandidate : Obligations.ChoiceIsBestCandidate := by
  intro s runs sound
  obtain ⟨v, run, inside, outside, only, setup⟩ := exec_monitorEpochWork runs
  have enabled : ∀ l, v.enabled l = s.enabled l := fun l => by
    unfold State.enabled
    rw [lineSetup_of_setup setup]
  have disabled : ∀ l, s.enabled l = false → (v.line l).mon.candidate = false := fun l off => by
    have : qualifies (s.lineSetup l) (s.line l) = false := by simp [qualifies, show (s.lineSetup l).enable = false from off]
    rw [(outside l off).1, sound.candidate l, sound.otherwise l, this]
    rfl
  have among : ∀ l, l ∈ candidates v ↔ (v.line l).mon.candidate = true := fun l => by
    rw [mem_candidates, enabled]
    refine ⟨fun h => h.2, fun h => ⟨?_, h⟩⟩
    cases on : s.enabled l with
    | true => rfl
    | false => exact absurd ((disabled l on).symm.trans h) (by decide)
  have waited := fun l on => (inside l on).wait (sound.otherwise l) (sound.candidate l)
  have ready : ∀ l, s.selected = some l → (s.line l).mon.otherwise = true ∧ (s.line l).mon.wtr = 0 := fun l chosen => by
    have := (sound.candidate l).symm.trans (sound.selected l chosen)
    simpa using this
  have before : ∀ l, v.selected = some l → s.selected = some l := fun l chosen => by
    cases on : s.enabled l with
    | true => exact State.chosen_iff.mp ((inside l on).choice (State.chosen_iff.mpr chosen)).1
    | false => exact State.chosen_iff.mp ((outside l on).2.symm.trans (State.chosen_iff.mpr chosen))
  have held : ∀ l, v.selected = some l → l ∈ candidates v := fun l chosen => by
    obtain ⟨was, zero⟩ := ready l (before l chosen)
    rw [among]
    cases on : s.enabled l with
    | false =>
      rw [(outside l on).1]
      exact sound.selected l (before l chosen)
    | true =>
      have is := ((inside l on).choice (State.chosen_iff.mpr chosen)).2 was
      obtain ⟨-, counted, -, -, candidate⟩ := waited l on
      rw [candidate, is, counted was is, zero]
      rfl
  have stays : ∀ l, s.selected = some l → (v.line l).mon.candidate = true → v.selected = some l := fun l chosen candidate => by
    have on := ((mem_candidates.mp ((among l).mpr candidate)).1).symm.trans (enabled l)
    obtain ⟨-, -, -, -, ends⟩ := waited l on.symm
    have is : (v.line l).mon.otherwise = true := by
      rw [ends, Bool.and_eq_true] at candidate
      exact candidate.1
    obtain ⟨m, -, otherwise, -, -, stands⟩ := (inside l on.symm).waits
    obtain ⟨was, -⟩ := ready l chosen
    exact State.chosen_iff.mp ((stands was ((sound.otherwise l).symm.trans was) (otherwise.trans is)).2 (State.chosen_iff.mpr chosen))
  obtain ⟨empty, choice⟩ := epochChoice_spec held
  refine ⟨_, run, empty.trans ?_, fun b chosen => ?_, only⟩
  · rw [List.eq_nil_iff_forall_not_mem]
    exact forall_congr' fun l => by rw [among, Bool.not_eq_true]; rfl
  · obtain ⟨member, least, ordered, steps⟩ := choice b chosen
    refine ⟨(among b).mp member, fun x candidate => least x ((among x).mpr candidate), fun other x candidate same => ?_,
      fun c chosen' other candidate => ?_⟩
    · have worse := ordered (fun h => other (before b h)) x ((among x).mpr candidate)
      rw [← Bool.not_eq_true, betterLine_iff, lineSetup_of_setup setup, lineSetup_of_setup setup] at worse
      have : (v.line x).lrx.grade = (v.line b).lrx.grade := same
      by_cases lower : (s.lineSetup b).priority < (s.lineSetup x).priority
      · exact .inl lower
      · exact .inr ⟨by omega, Fin.le_def.mpr (by omega)⟩
    · exact steps c (stays c chosen' candidate) other

end Sys2Proof.Machine
end

section
/-! What a steering computation leaves: role, offset and hold; the lock tests, the jump and the loop filter; the crosscheck record
(05, sections 5.2 to 5.6). -/

namespace Sys2Proof.Machine

/-! ### The own hold (R88, R106, R107) -/

theorem flying_iff (b : Bus) (k : Slot) : b.flying k = true ↔ b.flight.map Flight.slot = some k := by
  unfold Bus.flying
  cases b.flight with
  | none => simp
  | some f => simp

theorem submitHold_submitted (n : Nat) (s : State) : HoldSubmitted n s (submitHold n s) := by
  unfold HoldSubmitted submitHold
  by_cases silent : s.standalone = true ∨ s.duplicate = true
  · rw [if_pos silent, if_pos (by simpa using mt (takesTimings_iff s).mp (not_not.mpr silent))]
    exact ⟨rfl, rfl⟩
  · have takes := (takesTimings_iff s).mpr silent
    rw [if_neg silent, if_neg (show ¬ (!s.takesTimings) = true by rw [takes]; decide)]
    by_cases behind : s.bus.hold.isSome = true ∧ s.bus.flight.map Flight.slot = some .hold
    · rw [if_pos behind, if_pos (by rw [Bool.and_eq_true, flying_iff]; exact behind)]
      exact ⟨rfl, rfl⟩
    · rw [if_neg behind, if_neg (by rw [Bool.and_eq_true, flying_iff]; exact behind)]
      refine ⟨?_, ?_, fun flies => ?_, fun idle => pickMade_pick idle⟩
      · simp only [pick_slots, State.onBus]
      · rw [pick_spec]
        rfl
      · exact (congrArg (fun t : State => t.bus.flight) 
          (pick_of_flight' (s := s.onBus fun b => { b with hold := some (holdBulletin s.number n) }) flies) :)

theorem submitHold_bus (n : Nat) (s : State) :
    { (submitHold n s).bus with hold := s.bus.hold, flight := s.bus.flight } = s.bus := by
  unfold submitHold
  split
  · rfl
  · split
    · rfl
    · rw [pick_spec]
      rfl

/-- A submission reads the straps, DUPLICATE, the bus and the deferred HOLD, and writes the bus and the deferred HOLD. -/
theorem HoldSubmitted.of_same {n : Nat} {s t s' t' : State} (h : HoldSubmitted n s t) (loader : s'.loader = s.loader)
    (duplicate : s'.duplicate = s.duplicate) (bus : s'.bus = s.bus) (deferred : s'.steer.deferredHold = s.steer.deferredHold)
    (after : t'.duplicate = t.duplicate) (left : t'.bus = t.bus) (held : t'.steer.deferredHold = t.steer.deferredHold) :
    HoldSubmitted n s' t' := by
  unfold HoldSubmitted PickMade State.standalone State.number at *
  rw [loader, duplicate, bus, deferred, after, left, held]
  exact h

/-- The own hold is set and its HOLD submitted (R88). -/
theorem setOwnHold_spec (s : State) :
    (setOwnHold s).steer = { s.steer with ownHold := s.setup.holdEpochs, deferredHold := (setOwnHold s).steer.deferredHold }
      ∧ HoldSubmitted s.setup.holdEpochs s (setOwnHold s)
      ∧ { setOwnHold s with steer := s.steer, bus := { (setOwnHold s).bus with hold := s.bus.hold, flight := s.bus.flight } } = s := by
  unfold setOwnHold
  obtain ⟨u, set⟩ : ∃ u, (s.onSteer fun t => { t with ownHold := s.setup.holdEpochs }) = u := ⟨_, rfl⟩
  rw [set]
  have made := submitHold_submitted s.setup.holdEpochs u
  have bus := submitHold_bus s.setup.holdEpochs u
  obtain ⟨frame, steer⟩ := submitHold_frame s.setup.holdEpochs u
  generalize submitHold s.setup.holdEpochs u = v at *
  subst set
  refine ⟨?_, made.of_same rfl rfl rfl rfl rfl rfl rfl, ?_⟩
  · exact (congrArg (fun t : Steer => { t with deferredHold := v.steer.deferredHold }) steer :)
  · rw [show ({ v.bus with hold := s.bus.hold, flight := s.bus.flight } : Bus) = s.bus from bus]
    exact (congrArg (fun t : State => { t with steer := s.steer }) frame :)

/-! ### Part 2: role, offset, holdover and hold -/

/-- Anchor, offset and crosscheck record after part 2 (R84, R97). -/
theorem anchorStep_eq (role : Role) (line : Option LineNo) (phase : Option Nat) (t : Steer) :
    anchorStep role line phase t = { t with
      anchor := if role = .anchored then line else if t.role = some .anchored then none else t.anchor
      offset := if role = .anchored then if callsHold t role line then phase else t.offset.or phase
        else if t.role = some .anchored then none else t.offset
      recordAnchor := if callsHold t role line ∨ (role = .anchored ∧ t.offset = none ∧ phase ≠ none) then none
        else t.recordAnchor } := by
  unfold anchorStep callsHold
  by_cases anchored : role = .anchored
  · subst anchored
    simp only [if_true, true_and]
    cases moved : (t.role != some .anchored || t.anchor != line) with
    | true => cases phase <;> simp
    | false =>
      have same : t.anchor = line := by
        simp only [Bool.or_eq_false_iff, bne_eq_false_iff_eq] at moved
        exact moved.2
      subst same
      obtain ⟨-, -, -, -, offset⟩ := t
      cases offset <;> cases phase <;> simp
  · simp only [if_neg anchored]
    by_cases was : t.role = some .anchored
    · simp [was]
    · simp [was, anchored]

/-- Holdover after part 2 (R90). -/
theorem holdoverStep_eq (role : Role) (t : Steer) : holdoverStep role t = { t with
    holdover := if role ≠ .holding then none else if t.role = some .holding then t.holdover else some (ringMean t.ring) } := by
  unfold holdoverStep
  by_cases holding : role = .holding
  · by_cases was : t.role = some .holding
    · cases t
      simp_all
    · simp [holding, was]
  · simp [holding]

theorem holdoverStep_anchorStep (role : Role) (line : Option LineNo) (phase : Option Nat) (t : Steer) :
    holdoverStep role (anchorStep role line phase t) = { t with
      anchor := (anchorStep role line phase t).anchor, offset := (anchorStep role line phase t).offset
      recordAnchor := (anchorStep role line phase t).recordAnchor, holdover := (holdoverStep role t).holdover } := by
  rw [holdoverStep_eq, holdoverStep_eq, anchorStep_eq]

/-- The own hold counter after part 2, as the loop filter reads it (R88, R95). -/
def State.heldAt (s : State) : Nat := if callsHold s.steer s.lead.1 s.selected then s.setup.holdEpochs else s.steer.ownHold

/-- The steering part after part 2, but for the deferred HOLD. -/
def State.ledSteer (s : State) : Steer :=
  { s.steer with
    role := some s.lead.1, leading := some s.lead.2, announced := s.lead.2
    anchor := (anchorStep s.lead.1 s.selected s.selectedPhase s.steer).anchor
    offset := (anchorStep s.lead.1 s.selected s.selectedPhase s.steer).offset
    recordAnchor := (anchorStep s.lead.1 s.selected s.selectedPhase s.steer).recordAnchor
    holdover := (holdoverStep s.lead.1 s.steer).holdover, ownHold := s.heldAt }

/-- The part after part 2 but for the own hold. -/
def State.ledFirst (s : State) : State :=
  { s with
    floor := { s.floor with integral := holdingIntegral s.lead.1 s.steer s.floor.integral }
    steer := { s.ledSteer with ownHold := s.steer.ownHold } }

theorem led_eq (s : State) : s.led = if callsHold s.steer s.lead.1 s.selected then setOwnHold s.ledFirst else s.ledFirst := by
  unfold State.led roleStep
  dsimp only
  rw [holdoverStep_anchorStep]
  rfl

/-- What part 2 leaves. -/
theorem led_spec (s : State) :
    s.led.floor = { s.floor with integral := holdingIntegral s.lead.1 s.steer s.floor.integral }
      ∧ s.led.steer = { s.ledSteer with deferredHold := s.led.steer.deferredHold }
      ∧ (if callsHold s.steer s.lead.1 s.selected then HoldSubmitted s.setup.holdEpochs s s.led
          else s.led.bus = s.bus ∧ s.led.steer.deferredHold = s.steer.deferredHold)
      ∧ { s.led with floor := s.floor, steer := s.steer, bus := { s.led.bus with hold := s.bus.hold, flight := s.bus.flight } } = s := by
  obtain ⟨u, set⟩ : ∃ u, s.ledFirst = u := ⟨_, rfl⟩
  rw [led_eq, set]
  cases calls : callsHold s.steer s.lead.1 s.selected with
  | false =>
    subst set
    rw [if_neg Bool.false_ne_true, if_neg Bool.false_ne_true]
    refine ⟨rfl, ?_, ⟨rfl, rfl⟩, rfl⟩
    simp only [State.ledFirst, State.ledSteer, State.heldAt, calls, Bool.false_eq_true, if_false]
  | true =>
    simp only [if_true]
    have floor := setOwnHold_floor u
    obtain ⟨steer, made, frame⟩ := setOwnHold_spec u
    generalize setOwnHold u = v at *
    subst set
    refine ⟨floor, ?_, made.of_same rfl rfl rfl rfl rfl rfl rfl, ?_⟩
    · rw [steer]
      simp only [State.ledFirst, State.ledSteer, State.heldAt, calls, if_true]
    · exact (congrArg (fun t : State => { t with floor := s.floor, steer := s.steer }) frame :)

/-! ### The lock tests and the jump (R70 to R73) -/

/-- The floor clock after the lock tests. -/
def State.lockFloor (ending : Bool) (s : State) : Floor :=
  lockStep s.setup (s.jumping ending) s.combined { s.floor with integral := holdingIntegral s.lead.1 s.steer s.floor.integral }

theorem lockStep_frame (u : Setup) (jump : Bool) (e : Option Int) (f : Floor) : lockStep u jump e f = { f with
    state := (lockStep u jump e f).state, lock := (lockStep u jump e f).lock, unlock := (lockStep u jump e f).unlock } := by
  unfold lockStep
  split
  · split
    · split <;> rfl
    · rfl
  · split
    · split <;> rfl
    · rfl

theorem lockFloor_frame (ending : Bool) (s : State) : s.lockFloor ending = { s.floor with
    integral := holdingIntegral s.lead.1 s.steer s.floor.integral, state := (s.lockFloor ending).state
    lock := (s.lockFloor ending).lock, unlock := (s.lockFloor ending).unlock } := lockStep_frame _ _ _ _

/-- A line to which the jump is told, at an epoch close still due (`ahead`) or made (R16, R27, R71). -/
def Line.jumpTold (x : Line) (ahead : Bool) : Line :=
  { x with
    lrx := { x.lrx with jumpFlag := x.lrx.jumpFlag || !ahead, jumpAhead := x.lrx.jumpAhead || ahead }
    store := { x.store with request := if x.lrx.align = .aligned then some .jump else x.store.request } }

theorem jumpNotice_eq (s : State) (l : LineNo) :
    jumpNotice s l = s.setLine l ((s.line l).jumpTold (decide (.receiverEpochClose l ∈ s.due))) := by
  unfold jumpNotice Line.jumpTold State.isAligned
  dsimp only
  by_cases due : Instr.receiverEpochClose l ∈ s.due <;> by_cases aligned : (s.line l).lrx.align = .aligned
  · simp [due, aligned, State.onLrx, State.onStore, State.setLine_setLine]
  · simp [due, aligned, State.onLrx]
  · simp [due, aligned, State.onLrx, State.onStore, State.setLine_setLine]
  · simp [due, aligned, State.onLrx]

/-- What part 4 leaves. -/
theorem jumped_spec (ending : Bool) (s : State) :
    (s.jumped ending).floor = { s.lockFloor ending with
        shift := if s.jumping ending then some (s.combined.getD 0) else s.floor.shift
        unshifted := if s.jumping ending then s.floor.generation else s.floor.unshifted
        cut := s.floor.cut || s.jumping ending
        generation := if s.jumping ending then bump Config.max32 s.floor.generation else s.floor.generation }
      ∧ (s.jumped ending).steer = { s.led.steer with
          offset := if s.jumping ending then none else s.led.steer.offset
          recordAnchor := if s.jumping ending then none else s.led.steer.recordAnchor }
      ∧ (∀ l, (s.jumped ending).line l = if s.jumping ending = true ∧ s.enabled l = true then
          (s.line l).jumpTold (decide (.receiverEpochClose l ∈ s.due)) else s.line l)
      ∧ (s.jumped ending).bus = s.led.bus
      ∧ { s.jumped ending with
          lines := s.lines, floor := s.floor, steer := s.steer
          bus := { s.led.bus with hold := s.bus.hold, flight := s.bus.flight } } = s := by
  obtain ⟨floor, -, -, frame⟩ := led_spec s
  have lock : (s.lockTested ending).floor = s.lockFloor ending := by
    unfold State.lockTested State.lockFloor
    rw [floor]
  have frameOf := lockFloor_frame ending s
  unfold State.jumped
  cases jump : s.jumping ending with
  | false =>
    simp only [Bool.false_eq_true, if_false, false_and, Bool.or_false]
    refine ⟨?_, rfl, fun l => (congrArg (fun t : State => t.line l) frame :), rfl,
      (congrArg (fun t : State => { t with lines := s.lines }) frame :)⟩
    rw [lock, frameOf]
  | true =>
    simp only [if_true, true_and, Bool.or_true]
    unfold jumpStep
    obtain ⟨u, set⟩ : ∃ u : State, { s.lockTested ending with
        floor := { (s.lockTested ending).floor with
          shift := some (s.combined.getD 0), unshifted := (s.lockTested ending).floor.generation, cut := true
          generation := bump Config.max32 (s.lockTested ending).floor.generation }
        steer := { (s.lockTested ending).steer with offset := none, recordAnchor := none } } = u := ⟨_, rfl⟩
    rw [set]
    have change : ∀ t l, t.due = s.due → jumpNotice t l = t.setLine l ((t.line l).jumpTold (decide (.receiverEpochClose l ∈ s.due))) :=
      fun t l due => by rw [jumpNotice_eq, due]
    have keeps : ∀ (t : State) l x, t.due = s.due → (t.setLine l x).due = s.due := fun _ _ _ due => due
    have due : u.due = s.due := by rw [← set]; exact (congrArg State.due frame :)
    have line := fun l => forLines_line_of (P := fun t : State => t.due = s.due)
      (h := fun l x => x.jumpTold (decide (.receiverEpochClose l ∈ s.due))) change keeps (enabledLines_nodup u) due l
    have rest := forLines_frame_of (P := fun t : State => t.due = s.due)
      (h := fun l x => x.jumpTold (decide (.receiverEpochClose l ∈ s.due))) change keeps u.enabledLines due
    generalize u.forLines u.enabledLines jumpNotice = v at *
    have enabled : ∀ l, l ∈ u.enabledLines ↔ s.enabled l = true := fun l => by
      rw [mem_enabledLines, ← set]
      exact iff_of_eq (congrArg (fun t : State => t.enabled l = true) frame :)
    have old : ∀ l, u.line l = s.line l := fun l => by rw [← set]; exact (congrArg (fun t : State => t.line l) frame :)
    subst set
    refine ⟨(congrArg State.floor rest :).trans ?_, (congrArg State.steer rest :), fun l => ?_, (congrArg State.bus rest :), ?_⟩
    · dsimp only
      rw [lock, frameOf]
    · rw [line l, old]
      exact if_congr (enabled l) rfl rfl
    · exact (congrArg (fun t : State => { t with
          lines := s.lines, floor := s.floor, steer := s.steer
          bus := { s.led.bus with hold := s.bus.hold, flight := s.bus.flight } }) rest :).trans
        (congrArg (fun t : State => { t with lines := s.lines }) frame :)

/-! ### The loop filter and the crosscheck record (R93 to R98) -/

/-- The floor clock after a computation. -/
def State.computedFloor (ending : Bool) (s : State) : Floor :=
  filterStep s.setup s.ledSteer (if s.jumping ending then none else s.combined) { s.lockFloor ending with
    shift := if s.jumping ending then some (s.combined.getD 0) else s.floor.shift
    unshifted := if s.jumping ending then s.floor.generation else s.floor.unshifted
    cut := s.floor.cut || s.jumping ending
    generation := if s.jumping ending then bump Config.max32 s.floor.generation else s.floor.generation }

/-- The steering part after a computation, but for the deferred HOLD. -/
def State.computedSteer (ending : Bool) (s : State) : Steer :=
  recordStep s.anchorError s.meanError { s.ledSteer with
    ownHold := s.heldAt - 1, offset := if s.jumping ending then none else s.ledSteer.offset }

/-! ### The taking of a verdict (R47, R98) -/

/-- A verdict is taken at a line, for which it is an OVER (`names`) or not. -/
structure VerdictTaken (u : LineSetup) (names : Prop) (x : Line) (p : Bool) (y : Line) (q : Bool) : Prop where
  frame : y = { x with mon := y.mon }
  counts : names → x.mon.crosscheck = false → u.maskCrosscheck = false →
    y.mon.crossRun = bump 4 x.mon.crossRun ∧ y.mon.crosscheck = decide (x.mon.crossRun = 3)
      ∧ (x.mon.crossRun = 3 → y.mon.latched.crosscheck = true ∧ y.mon.otherwise = false)
  clears : ¬ names ∨ x.mon.crosscheck = true ∨ u.maskCrosscheck = true → y = { x with mon := { x.mon with crossRun := 0 } }
  keeps : KeepsChoice x p y q

/-- Between `s` and `t` the selection and its loss stand, or line `l` has lost the selection. -/
def LosesOnly (l : LineNo) (s t : State) : Prop :=
  (t.selected = s.selected ∧ t.lostNotice = s.lostNotice) ∨ (s.selected = some l ∧ t.selected = none ∧ t.lostNotice = some l)

theorem rejudge_losesOnly (l : LineNo) (s : State) : LosesOnly l s (rejudge l s) := by
  obtain ⟨-, -, selection, -⟩ := rejudge_spec l s
  by_cases drops : (s.line l).mon.otherwise = true ∧ qualifies (s.lineSetup l) (s.line l) = false ∧ s.selected = some l
  · rw [if_pos drops] at selection
    exact .inr ⟨drops.2.2, Prod.mk.inj selection⟩
  · rw [if_neg drops] at selection
    exact .inl (Prod.mk.inj selection)

/-- A condition of the monitors newly asserted leaves the line not otherwise qualified (R52). -/
theorem raise_out {c : LineCond} (own : c.ofMonitor) {l : LineNo} {s : State} (quiet : (s.line l).live c = false) :
    ((raise c l s).line l).mon.otherwise = false ∧ LosesOnly l s (raise c l s) := by
  have live : ∀ x : Line, x.live c = true → ∀ u, qualifies u x = false := fun x live u => by
    rw [← Bool.not_eq_true]
    exact fun q => absurd ((qualifies_quiet q own).symm.trans live) (by decide)
  unfold raise
  rw [if_neg (by rw [quiet]; decide)]
  refine ⟨?_, rejudge_losesOnly l (s.setLine l _)⟩
  rw [(rejudge_spec l _).1, State.setLine_line]
  refine (judge_spec _ _ _).1.trans (live _ ?_ _)
  cases c <;> rfl

/-- A verdict that names no line that counts sets the run of the line to 0. -/
theorem takeVerdict_clears {v : Option LineNo} {s : State} {l : LineNo}
    (h : v ≠ some l ∨ (s.line l).mon.crosscheck = true ∨ (s.lineSetup l).maskCrosscheck = true) :
    takeVerdict v s l = s.onMon l fun m => { m with crossRun := 0 } := by
  unfold takeVerdict
  dsimp only
  refine if_neg fun ⟨named, quiet, unmasked⟩ => ?_
  obtain h | h | h := h
  · exact h named
  · exact absurd (quiet.symm.trans h) (by decide)
  · exact absurd (unmasked.symm.trans h) (by decide)

theorem takeVerdict_counts {v : Option LineNo} {s : State} {l : LineNo} (named : v = some l) (quiet : (s.line l).mon.crosscheck = false)
    (unmasked : (s.lineSetup l).maskCrosscheck = false) :
    takeVerdict v s l = if (s.line l).mon.crossRun = 3 then raise .crosscheck l (s.onMon l fun m => { m with crossRun := bump 4 m.crossRun })
      else s.onMon l fun m => { m with crossRun := bump 4 m.crossRun } := by
  unfold takeVerdict
  dsimp only
  rw [if_pos ⟨named, quiet, unmasked⟩]
  exact if_congr (by omega) rfl rfl

theorem takeVerdict_spec (v : Option LineNo) (s : State) (l : LineNo) :
    OnlyJudged l s (takeVerdict v s l) ∧ (∀ m, m ≠ l → (takeVerdict v s l).chosen m = s.chosen m)
      ∧ VerdictTaken (s.lineSetup l) (v = some l) (s.line l) (s.chosen l) ((takeVerdict v s l).line l) ((takeVerdict v s l).chosen l)
      ∧ ((takeVerdict v s l).selected = s.selected ∧ (takeVerdict v s l).lostNotice = s.lostNotice
        ∨ v = some l ∧ LosesOnly l s (takeVerdict v s l)) := by
  by_cases counts : v = some l ∧ (s.line l).mon.crosscheck = false ∧ (s.lineSetup l).maskCrosscheck = false
  · obtain ⟨named, quiet, unmasked⟩ := counts
    have clears : ∀ {y : Line}, ¬ v = some l ∨ (s.line l).mon.crosscheck = true ∨ (s.lineSetup l).maskCrosscheck = true →
        y = { s.line l with mon := { (s.line l).mon with crossRun := 0 } } := fun {y} h => by
      obtain h | h | h := h
      · exact absurd named h
      · exact absurd (quiet.symm.trans h) (by decide)
      · exact absurd (unmasked.symm.trans h) (by decide)
    rw [takeVerdict_counts named quiet unmasked]
    obtain ⟨u, set⟩ : ∃ u, (s.onMon l fun m => { m with crossRun := bump 4 m.crossRun }) = u := ⟨_, rfl⟩
    have line : u.line l = { s.line l with mon := { (s.line l).mon with crossRun := bump 4 (s.line l).mon.crossRun } } := by
      rw [← set, State.onMon_line]
    have only : OnlyJudged l s u := set ▸ .of_line (onlyLine_onMon s l _)
    have same : u.selected = s.selected ∧ u.lostNotice = s.lostNotice := by rw [← set]; exact ⟨rfl, rfl⟩
    rw [set]
    by_cases fourth : (s.line l).mon.crossRun = 3
    · rw [if_pos fourth]
      obtain ⟨⟨raised, tested, selects⟩, live, -⟩ := raise_tests (c := .crosscheck) ⟨by decide, by decide⟩ l u
      have still : (u.line l).live .crosscheck = false := by rw [line]; exact quiet
      obtain ⟨out, loses⟩ := raise_out (c := .crosscheck) ⟨by decide, by decide⟩ still
      have selects : Selects l s (raise .crosscheck l u) := selects.before same.1 (by rw [line])
      refine ⟨only.trans raised, selects.1, ⟨?_, fun _ _ _ => ⟨?_, ?_, fun _ => ⟨?_, out⟩⟩, clears, selects.2⟩, .inr ⟨named, ?_⟩⟩
      · rw [tested.frame, line]
      · rw [tested.crossRun, line]
      · rw [decide_eq_true fourth]
        exact live
      · exact tested.latches live still
      · unfold LosesOnly at *
        rwa [same.1, same.2] at loses
    · rw [if_neg fourth]
      have selects : Selects l s u := .of_same same.1 (by rw [line])
      refine ⟨only, selects.1, ⟨by rw [line], fun _ _ _ => ⟨by rw [line], ?_, fun h => absurd h fourth⟩, clears, selects.2⟩, .inl same⟩
      rw [line, decide_eq_false fourth]
      exact quiet
  · have clears : v ≠ some l ∨ (s.line l).mon.crosscheck = true ∨ (s.lineSetup l).maskCrosscheck = true := by
      by_contra h
      simp only [not_or, ne_eq, not_not, Bool.not_eq_true] at h
      exact counts h
    rw [takeVerdict_clears clears]
    have selects : Selects l s (s.onMon l fun m => { m with crossRun := 0 }) := .of_same rfl (by rw [State.onMon_line])
    exact ⟨.of_line (onlyLine_onMon s l _), selects.1, ⟨by rw [State.onMon_line],
      fun named quiet unmasked => absurd ⟨named, quiet, unmasked⟩ counts, fun _ => State.onMon_line s l _, selects.2⟩, .inl ⟨rfl, rfl⟩⟩

/-! ### A computation as a whole (R81) -/

/-- A line after part 4. -/
def State.told (ending : Bool) (s : State) (l : LineNo) : Line :=
  if s.jumping ending then (s.line l).jumpTold (decide (.receiverEpochClose l ∈ s.due)) else s.line l

/-- A computation took the part from `s` to `t`. -/
structure Computed (ending : Bool) (s t : State) : Prop where
  floor : t.floor = s.computedFloor ending
  steer : t.steer = { s.computedSteer ending with deferredHold := t.steer.deferredHold }
  hold : if callsHold s.steer s.lead.1 s.selected then HoldSubmitted s.setup.holdEpochs s t
    else t.bus = s.bus ∧ t.steer.deferredHold = s.steer.deferredHold
  enabled : ∀ l, s.enabled l = true →
    VerdictTaken (s.lineSetup l) (overVerdict s.ledSteer s.anchorError s.meanError = some l) (s.told ending l) (s.chosen l) (t.line l)
      (t.chosen l)
  disabled : ∀ l, s.enabled l = false → t.line l = s.line l
  loses : (t.selected = s.selected ∧ t.lostNotice = s.lostNotice)
    ∨ ∃ k, overVerdict s.ledSteer s.anchorError s.meanError = some k ∧ LosesOnly k s t
  frame : { t with
    lines := s.lines, floor := s.floor, steer := s.steer, selected := s.selected, lostNotice := s.lostNotice
    bus := { t.bus with hold := s.bus.hold, flight := s.bus.flight } } = s

theorem over_eq (ending : Bool) (s : State) : s.over ending = overVerdict s.ledSteer s.anchorError s.meanError := by
  change overVerdict s.led.steer s.anchorError s.meanError = _
  rw [(led_spec s).2.1]
  rfl

/-- A pass of verdicts drops the selection of the line that the verdict names, or none. -/
theorem forLines_takeVerdict_loses (v : Option LineNo) (ls : List LineNo) (s : State) :
    ((s.forLines ls (takeVerdict v)).selected = s.selected ∧ (s.forLines ls (takeVerdict v)).lostNotice = s.lostNotice)
      ∨ ∃ k, v = some k ∧ LosesOnly k s (s.forLines ls (takeVerdict v)) := by
  refine State.forLines_induct (fun t => (t.selected = s.selected ∧ t.lostNotice = s.lostNotice) ∨ ∃ k, v = some k ∧ LosesOnly k s t)
    (takeVerdict v) ls s (.inl ⟨rfl, rfl⟩) fun t l _ before => ?_
  obtain ⟨-, -, -, same | ⟨named, loses⟩⟩ := takeVerdict_spec v t l
  · unfold LosesOnly at *
    rwa [same.1, same.2]
  · obtain same | ⟨was, lost⟩ := loses
    · unfold LosesOnly at *
      rwa [same.1, same.2]
    · obtain before | ⟨k, named', before⟩ := before
      · exact .inr ⟨l, named, .inr ⟨before.1.symm.trans was, lost⟩⟩
      · obtain rfl := Option.some.inj (named.symm.trans named')
        obtain before | ⟨-, none, -⟩ := before
        · exact .inr ⟨l, named, .inr ⟨before.1.symm.trans was, lost⟩⟩
        · exact absurd (none.symm.trans was) (by simp)

theorem compute_spec (ending : Bool) (s : State) : Computed ending s (compute ending s) := by
  obtain ⟨-, ledSteer, ledHold, ledFrame⟩ := led_spec s
  obtain ⟨floor, steer, line, bus, frame⟩ := jumped_spec ending s
  rw [compute_eq, over_eq]
  obtain ⟨r, record⟩ : ∃ r, s.recorded ending = r := ⟨_, rfl⟩
  have floor' : r.floor = s.computedFloor ending := by
    rw [← record]
    change filterStep s.setup (s.jumped ending).steer _ (s.jumped ending).floor = _
    rw [floor, steer, ledSteer]
    rfl
  have steer' : r.steer = { s.computedSteer ending with deferredHold := s.led.steer.deferredHold } := by
    rw [← record]
    change recordStep s.anchorError s.meanError { (s.jumped ending).steer with ownHold := (s.jumped ending).steer.ownHold - 1 } = _
    rw [steer, ledSteer]
    rfl
  have bus' : r.bus = s.led.bus := by rw [← record]; exact bus
  have frame' : { r with
      lines := s.lines, floor := s.floor, steer := s.steer
      bus := { s.led.bus with hold := s.bus.hold, flight := s.bus.flight } } = s := by
    rw [← record]
    exact (congrArg (fun t : State => { t with floor := s.floor, steer := s.steer }) frame :)
  have line' : ∀ l, r.line l = if s.jumping ending = true ∧ s.enabled l = true then
      (s.line l).jumpTold (decide (.receiverEpochClose l ∈ s.due)) else s.line l := fun l => by rw [← record]; exact line l
  rw [record]
  clear record floor steer line bus frame
  obtain ⟨v, pass, inside, outside, only, setup⟩ := pass_spec s (f := takeVerdict (overVerdict s.ledSteer s.anchorError s.meanError))
    (R := fun l x p y q => VerdictTaken (s.lineSetup l) (overVerdict s.ledSteer s.anchorError s.meanError = some l) x p y q)
    (fun t l setup => lineSetup_of_setup setup l ▸ (takeVerdict_spec _ t l).2.2.1)
    (fun t l => (takeVerdict_spec _ t l).1) (fun t l => (takeVerdict_spec _ t l).2.1) (t := r) (congrArg State.setup frame' :)
  have loses := forLines_takeVerdict_loses (overVerdict s.ledSteer s.anchorError s.meanError) r.enabledLines r
  rw [pass] at loses ⊢
  have selected : r.selected = s.selected := (congrArg State.selected frame' :)
  have lost : r.lostNotice = s.lostNotice := (congrArg State.lostNotice frame' :)
  have chosen : ∀ l, r.chosen l = s.chosen l := fun l => by unfold State.chosen; rw [selected]
  unfold LosesOnly at loses
  rw [selected, lost] at loses
  have steerOf : v.steer = r.steer := (congrArg State.steer only :)
  have busOf : v.bus = r.bus := (congrArg State.bus only :)
  exact {
    floor := (congrArg State.floor only :).trans floor'
    steer := by rw [steerOf, steer']
    hold := by
      cases calls : callsHold s.steer s.lead.1 s.selected with
      | true =>
        rw [calls] at ledHold
        have duplicate : v.duplicate = s.led.duplicate := ((congrArg State.duplicate only :).trans
          (congrArg State.duplicate frame' :)).trans (congrArg State.duplicate ledFrame :).symm
        exact HoldSubmitted.of_same ledHold rfl rfl rfl rfl duplicate (busOf.trans bus') (by rw [steerOf, steer'])
      | false =>
        rw [calls] at ledHold
        exact ⟨(busOf.trans bus').trans ledHold.1, by rw [steerOf, steer']; exact ledHold.2⟩
    enabled := fun l on => by
      have taken := inside l on
      rw [line', chosen, on] at taken
      unfold State.told
      simpa using taken
    disabled := fun l off => by
      rw [(outside l off).1, line', off]
      simp
    loses := loses
    frame := by
      rw [busOf, bus']
      exact (congrArg (fun t : State => { t with
        lines := s.lines, floor := s.floor, steer := s.steer, selected := s.selected, lostNotice := s.lostNotice
        bus := { s.led.bus with hold := s.bus.hold, flight := s.bus.flight } }) only :).trans
        (congrArg (fun t : State => { t with selected := s.selected, lostNotice := s.lostNotice }) frame' :) }

end Sys2Proof.Machine
end

section
/-! The selector's notices at the floor clock unit: SELECTION_LOST_NOTICE and GRADE_CHANGE_NOTICE (05, section 5.3). -/

namespace Sys2Proof.Machine

theorem fallbackGrade_cases (u : Setup) (t : Steer) :
    (t.historyValid = true ∧ t.holdAge ≤ u.holdoverLimit * 256 ∧ fallbackGrade u t = 4)
      ∨ (¬ (t.historyValid = true ∧ t.holdAge ≤ u.holdoverLimit * 256) ∧ fallbackGrade u t = 5) := by
  unfold fallbackGrade
  by_cases valid : t.historyValid = true ∧ t.holdAge ≤ u.holdoverLimit * 256
  · exact .inl ⟨valid.1, valid.2, if_pos (by simpa using valid)⟩
  · exact .inr ⟨valid, if_neg (by simpa using valid)⟩

/-- The part after the immediate fallback, before its HOLD: role `r`, grade `g`, holdover `h`, integral `i` and frequency `f`. -/
def State.fallen (s : State) (r : Role) (g : Nat) (h : Option Int) (i f : Int) : State :=
  { s with
    floor := { s.floor with integral := i, freq := f }
    steer := { s.steer with
      role := some r, leading := some g, announced := g, anchor := none, offset := none, recordAnchor := none
      runCount := 0, holdover := h } }

theorem fallback_of_history {s : State} (valid : s.steer.historyValid = true ∧ s.steer.holdAge ≤ s.setup.holdoverLimit * 256) :
    fallback s = setOwnHold (s.fallen .holding 4 (some (ringMean s.steer.ring)) (64 * ringMean s.steer.ring)
      (clampFreq s.setup s.floor.state (ringMean s.steer.ring))) := by
  obtain ⟨-, -, grade⟩ | ⟨out, -⟩ := fallbackGrade_cases s.setup s.steer
  · unfold fallback
    dsimp only
    rw [grade]
    rfl
  · exact absurd valid out

theorem fallback_of_none {s : State} (out : ¬ (s.steer.historyValid = true ∧ s.steer.holdAge ≤ s.setup.holdoverLimit * 256)) :
    fallback s = setOwnHold (s.fallen .free 5 none s.floor.integral (clampFreq s.setup s.floor.state (s.floor.integral / 64))) := by
  obtain ⟨valid, young, -⟩ | ⟨-, grade⟩ := fallbackGrade_cases s.setup s.steer
  · exact absurd ⟨valid, young⟩ out
  · unfold fallback
    dsimp only
    rw [grade]
    rfl

/-- What a fallback leaves, whatever role and frequency it comes to. -/
structure FellBack (s t : State) : Prop where
  leading : t.steer.leading = some t.steer.announced
  ownHold : t.steer.ownHold = s.setup.holdEpochs
  hold : HoldSubmitted s.setup.holdEpochs s t
  floor : t.floor = { s.floor with integral := t.floor.integral, freq := t.floor.freq }
  steer : t.steer = { s.steer with
    role := t.steer.role, leading := t.steer.leading, announced := t.steer.announced, ownHold := t.steer.ownHold
    holdover := t.steer.holdover, anchor := none, offset := none, recordAnchor := none, runCount := 0
    deferredHold := t.steer.deferredHold }
  frame : { t with
    floor := s.floor, steer := s.steer, bus := { t.bus with hold := s.bus.hold, flight := s.bus.flight } } = s

theorem setOwnHold_fallen (s : State) (r : Role) (g : Nat) (h : Option Int) (i f : Int) :
    ∃ t, setOwnHold (s.fallen r g h i f) = t ∧ t.steer.role = some r ∧ t.steer.announced = g ∧ t.steer.holdover = h
      ∧ t.floor.integral = i ∧ t.floor.freq = f ∧ FellBack s t := by
  refine ⟨_, rfl, ?_⟩
  have floor := setOwnHold_floor (s.fallen r g h i f)
  obtain ⟨steer, made, frame⟩ := setOwnHold_spec (s.fallen r g h i f)
  generalize setOwnHold (s.fallen r g h i f) = t at *
  refine ⟨by rw [steer]; rfl, by rw [steer]; rfl, by rw [steer]; rfl, by rw [floor]; rfl, by rw [floor]; rfl, ?_⟩
  exact {
    leading := by rw [steer]; rfl
    ownHold := by rw [steer]; rfl
    hold := made.of_same rfl rfl rfl rfl rfl rfl rfl
    floor := by rw [floor]; rfl
    steer := by rw [steer]; rfl
    frame := (congrArg (fun t : State => { t with floor := s.floor, steer := s.steer }) frame :) }

theorem fallback_fellBack (s : State) : FellBack s (fallback s) := by
  by_cases valid : s.steer.historyValid = true ∧ s.steer.holdAge ≤ s.setup.holdoverLimit * 256
  · rw [fallback_of_history valid]
    obtain ⟨t, made, -, -, -, -, -, fell⟩ := setOwnHold_fallen s .holding 4 (some (ringMean s.steer.ring)) (64 * ringMean s.steer.ring)
      (clampFreq s.setup s.floor.state (ringMean s.steer.ring))
    rw [made]
    exact fell
  · rw [fallback_of_none valid]
    obtain ⟨t, made, -, -, -, -, -, fell⟩ := setOwnHold_fallen s .free 5 none s.floor.integral
      (clampFreq s.setup s.floor.state (s.floor.integral / 64))
    rw [made]
    exact fell

theorem exec_selectionLostNotice_anchored {s : State} (anchored : s.steer.role = some .anchored) (l : LineNo) :
    exec (.selectionLostNotice l) s = .next (fallback { s with lostNotice := none }) :=
  congrArg Host.Outcome.next (if_pos anchored)

/-- Settles O38: the fallback by `setOwnHold_fallen`, the rest by the definition of the notices. -/
theorem noticesReachAnchoredUnit : Obligations.NoticesReachAnchoredUnit := by
  intro l g s
  refine ⟨fun anchored => ?_, fun other => congrArg Host.Outcome.next (if_neg other),
    fun anchored low high => congrArg Host.Outcome.next (if_pos ⟨anchored, low, high⟩),
    fun other => congrArg Host.Outcome.next (if_neg fun h => other h.1)⟩
  have run := exec_selectionLostNotice_anchored anchored l
  have back : ∀ t, FellBack { s with lostNotice := none } t → { t with
      floor := s.floor, steer := s.steer, lostNotice := s.lostNotice
      bus := { t.bus with hold := s.bus.hold, flight := s.bus.flight } } = s := fun t fell =>
    (congrArg (fun u : State => { u with lostNotice := s.lostNotice }) fell.frame :)
  by_cases valid : s.steer.historyValid = true ∧ s.steer.holdAge ≤ s.setup.holdoverLimit * 256
  · rw [fallback_of_history (s := { s with lostNotice := none }) valid] at run
    obtain ⟨t, made, role, grade, holdover, integral, freq, fell⟩ := setOwnHold_fallen { s with lostNotice := none } .holding 4
      (some (ringMean s.steer.ring)) (64 * ringMean s.steer.ring) (clampFreq s.setup s.floor.state (ringMean s.steer.ring))
    exact ⟨t, run.trans (congrArg Host.Outcome.next made), fun _ => ⟨role, grade, holdover, integral, freq⟩, fun out => absurd valid out,
      fell.leading, fell.ownHold, fell.hold.of_same rfl rfl rfl rfl rfl rfl rfl, fell.floor, fell.steer, back t fell⟩
  · rw [fallback_of_none (s := { s with lostNotice := none }) valid] at run
    obtain ⟨t, made, role, grade, holdover, integral, freq, fell⟩ := setOwnHold_fallen { s with lostNotice := none } .free 5 none
      s.floor.integral (clampFreq s.setup s.floor.state (s.floor.integral / 64))
    exact ⟨t, run.trans (congrArg Host.Outcome.next made), fun in_ => absurd in_ valid, fun _ => ⟨role, grade, holdover, integral, freq⟩,
      fell.leading, fell.ownHold, fell.hold.of_same rfl rfl rfl rfl rfl rfl rfl, fell.floor, fell.steer, back t fell⟩

end Sys2Proof.Machine
end

section
/-! EPOCH_MARK: the unit's epoch work, from the notices to the addition of F (04, sections 4.2 to 4.4; 08, sections 8.2 to 8.6; R67, R145). -/

namespace Sys2Proof.Machine

/-! ### What the unit's parts write -/

/-- Between `s` and `t`, a part of the unit's epoch work, nothing differs but what it writes: the clock's control, the steering part but
for what is handed, the HOLD and the flight, the selection and the notices, and on each line the jump flags, the recentre request and the
monitor. -/
structure Steers (s t : State) : Prop where
  line : ∀ l, t.line l = { s.line l with
    lrx := { (s.line l).lrx with jumpFlag := (t.line l).lrx.jumpFlag, jumpAhead := (t.line l).lrx.jumpAhead }
    store := { (s.line l).store with request := (t.line l).store.request }
    mon := (t.line l).mon }
  floor : t.floor = { s.floor with
    integral := t.floor.integral, freq := t.floor.freq, state := t.floor.state, lock := t.floor.lock, unlock := t.floor.unlock
    shift := t.floor.shift, unshifted := t.floor.unshifted, cut := t.floor.cut, generation := t.floor.generation }
  snapshot : t.steer.snapshot = s.steer.snapshot
  peerHold : t.steer.peerHold = s.steer.peerHold
  frame : { t with
    lines := s.lines, floor := s.floor, steer := s.steer, selected := s.selected, lostNotice := s.lostNotice
    gradeNotice := s.gradeNotice, bus := { t.bus with hold := s.bus.hold, flight := s.bus.flight } } = s

/-- A computation writes the integral, F, state, lock counter, unlock run and the jump's shift, generation and cut. -/
theorem computedFloor_frame (ending : Bool) (s : State) : s.computedFloor ending = { s.floor with
    integral := (s.computedFloor ending).integral, freq := (s.computedFloor ending).freq, state := (s.lockFloor ending).state
    lock := (s.lockFloor ending).lock, unlock := (s.lockFloor ending).unlock
    shift := if s.jumping ending then some (s.combined.getD 0) else s.floor.shift
    unshifted := if s.jumping ending then s.floor.generation else s.floor.unshifted
    cut := s.floor.cut || s.jumping ending
    generation := if s.jumping ending then bump Config.max32 s.floor.generation else s.floor.generation } := by
  unfold State.computedFloor filterStep
  dsimp only
  rw [lockFloor_frame]

theorem told_frame (ending : Bool) (s : State) (l : LineNo) : s.told ending l = { s.line l with
    lrx := { (s.line l).lrx with jumpFlag := (s.told ending l).lrx.jumpFlag, jumpAhead := (s.told ending l).lrx.jumpAhead }
    store := { (s.line l).store with request := (s.told ending l).store.request } } := by
  unfold State.told
  split <;> rfl

theorem Computed.steers {ending : Bool} {s t : State} (computed : Computed ending s t) : Steers s t where
  line l := by
    cases on : s.enabled l with
    | true =>
      have taken := (computed.enabled l on).frame
      rw [told_frame] at taken
      rw [taken]
    | false => rw [computed.disabled l on]
  floor := by rw [computed.floor, computedFloor_frame]
  snapshot := by rw [computed.steer]; rfl
  peerHold := by rw [computed.steer]; rfl
  frame := (congrArg (fun u : State => { u with gradeNotice := s.gradeNotice }) computed.frame :)

/-! ### The parts in a row -/

/-- A notice not yet taken is taken first (R58, R60, R89). -/
theorem noticesFirst_eq (s : State) : noticesFirst s =
    { (if s.lostNotice.isSome then if s.steer.role = some .anchored then fallback { s with lostNotice := none }
        else { s with lostNotice := none } else s) with gradeNotice := none } := rfl

/-- Without a lost notice, and outside ANCHORED, the notices are only dropped. -/
theorem noticesFirst_of_none {s : State} (h : s.lostNotice = none ∨ s.steer.role ≠ some .anchored) :
    noticesFirst s = { s with lostNotice := none, gradeNotice := none } := by
  rw [noticesFirst_eq]
  cases lost : s.lostNotice with
  | none =>
    rw [if_neg (by simp), ← lost]
  | some l =>
    rw [lost] at h
    rw [if_pos (show (some l).isSome = true from rfl), if_neg (h.resolve_left (by simp))]

/-- The notices write the integral and F, the steering part and the HOLD. -/
theorem noticesFirst_spec (s : State) :
    (noticesFirst s).floor = { s.floor with integral := (noticesFirst s).floor.integral, freq := (noticesFirst s).floor.freq }
      ∧ { noticesFirst s with
          floor := s.floor, steer := s.steer, lostNotice := s.lostNotice, gradeNotice := s.gradeNotice
          bus := { (noticesFirst s).bus with hold := s.bus.hold, flight := s.bus.flight } } = s := by
  by_cases h : s.lostNotice = none ∨ s.steer.role ≠ some .anchored
  · rw [noticesFirst_of_none h]
    exact ⟨rfl, rfl⟩
  · obtain ⟨lost, anchored⟩ := not_or.mp h
    have fell := fallback_fellBack { s with lostNotice := none }
    have first : noticesFirst s = { fallback { s with lostNotice := none } with gradeNotice := none } := by
      rw [noticesFirst_eq, if_pos (Option.isSome_iff_ne_none.mpr lost), if_pos (not_not.mp anchored)]
    rw [first]
    exact ⟨fell.floor, (congrArg (fun u : State => { u with lostNotice := s.lostNotice, gradeNotice := s.gradeNotice }) fell.frame :)⟩

/-- The part with the peers handed over and the mark counted, before the computation (R67, R69, R145). -/
def State.handed (s : State) : State :=
  let a := peerEpochWork (noticesFirst (s.took .epochMark))
  { a with floor := { a.floor with listen := if a.floor.state = .start then bump 4 a.floor.listen else a.floor.listen } }

/-- The part after the computation that leaves `c`: the history is kept and F added (R65, R74, R76). -/
def State.closed (ending : Bool) (c : State) : State :=
  { c with
    floor := { ({ c.floor with listenEnded := c.floor.listenEnded || ending } : Floor).addFreq with epochFirst := true }
    steer := historyStep c.floor c.steer }

/-- The part at a listen mark before the fourth (R69). -/
def State.listened (a : State) : State :=
  { a with
    floor := { a.floor.addFreq with epochFirst := true }
    steer := { a.steer with holdAge := bump Config.maxAge a.steer.holdAge } }

theorem noticesFirst_took_floor (s : State) : (noticesFirst (s.took .epochMark)).floor.state = s.floor.state :=
  noticesFirst_floorState _

theorem noticesFirst_took_listen (s : State) : (noticesFirst (s.took .epochMark)).floor.listen = s.floor.listen := by
  rw [(noticesFirst_spec (s.took .epochMark)).1]
  rfl

theorem exec_epochMark {s : State} (runs : s.running = true) :
    exec .epochMark s = .next (epochWork (s.took .epochMark)) := congrArg Host.Outcome.next (if_pos runs)

theorem exec_epochMark_listening {s : State} (state : s.floor.state = .start) (early : s.floor.listen < 3) :
    exec .epochMark s = .next s.handed.listened := by
  have runs : s.running = true := by simp [State.running, state]
  rw [exec_epochMark runs]
  refine congrArg Host.Outcome.next ?_
  have state' := (noticesFirst_took_floor s).trans state
  have listen := noticesFirst_took_listen s
  unfold epochWork epochSteps State.handed
  generalize noticesFirst (s.took .epochMark) = n at *
  have start : (peerEpochWork n).floor.state = .start := state'
  have small : bump 4 (peerEpochWork n).floor.listen < 4 := by
    have : (peerEpochWork n).floor.listen = s.floor.listen := listen
    rw [this, bump_spec _ _ (by omega)]
    omega
  dsimp only
  rw [if_pos start, if_pos small, if_pos start]
  rfl

theorem exec_epochMark_computing {s : State} (runs : s.running = true) (h : s.floor.state = .start → 3 ≤ s.floor.listen) :
    exec .epochMark s = .next (State.closed (s.floor.state == .start) (compute (s.floor.state == .start) s.handed)) := by
  rw [exec_epochMark runs]
  refine congrArg Host.Outcome.next ?_
  have state := noticesFirst_took_floor s
  have listen := noticesFirst_took_listen s
  unfold epochWork epochSteps State.handed
  generalize noticesFirst (s.took .epochMark) = n at *
  rw [← state] at h ⊢
  by_cases start : n.floor.state = .start
  · have small : ¬ bump 4 (peerEpochWork n).floor.listen < 4 := by
      have : (peerEpochWork n).floor.listen = s.floor.listen := listen
      have := h start
      unfold bump
      split <;> omega
    have start' : (peerEpochWork n).floor.state = .start := start
    dsimp only
    rw [if_pos start', if_neg small, if_pos start', start]
    simp [State.closed]
  · have start' : ¬ (peerEpochWork n).floor.state = .start := start
    dsimp only
    rw [if_neg start', if_neg start', beq_false_of_ne start]
    simp [State.closed, State.onSteer]

/-! ### The peer table (R140, R145, R151) -/

theorem agePeer_absent {e : Peer} (absent : e.state = .absent) : agePeer e = e := if_pos absent

/-- An entry that has been silent for 16 epochs becomes ABSENT (R140). -/
theorem agePeer_old {e : Peer} (present : e.state ≠ .absent) (old : 15 ≤ e.sinceAny) : agePeer e = {} := by
  have : 16 ≤ bump 255 e.sinceAny := by
    unfold bump
    split <;> omega
  unfold agePeer
  rw [if_neg present]
  exact if_pos this

theorem agePeer_young {e : Peer} (present : e.state ≠ .absent) (young : e.sinceAny < 15) : agePeer e = { e with
    state := if e.state = .active ∧ 1 ≤ e.sinceTiming then .stale else e.state, sinceAny := e.sinceAny + 1
    sinceTiming := if e.sinceTiming < 255 then e.sinceTiming + 1 else e.sinceTiming } := by
  have any : bump 255 e.sinceAny = e.sinceAny + 1 := if_pos (by omega)
  have timing : 2 ≤ bump 255 e.sinceTiming ↔ 1 ≤ e.sinceTiming := by
    unfold bump
    split <;> omega
  unfold agePeer
  dsimp only
  rw [if_neg present, any, if_neg (by omega)]
  simp only [timing]
  split <;> rfl

theorem agePeer_hold (e : Peer) :
    (agePeer e).hold = if e.state = .absent ∨ e.sinceAny < 15 then e.hold else 0 := by
  by_cases absent : e.state = .absent
  · rw [agePeer_absent absent, if_pos (.inl absent)]
  · by_cases young : e.sinceAny < 15
    · rw [agePeer_young absent young]
      exact (if_pos (.inr young)).symm
    · rw [agePeer_old absent (by omega), if_neg (by simp [absent, young])]

/-- What the computation finds: the peers handed over, the mark counted, and nothing else but what the notices write. -/
structure Handed (s a : State) : Prop where
  floor : a.floor = { s.floor with
    integral := a.floor.integral, freq := a.floor.freq
    listen := if s.floor.state = .start then bump 4 s.floor.listen else s.floor.listen }
  peer : ∀ p, a.peer p = afterHandOver s.floor.generation (agePeer (s.peer p))
  snapshot : ∀ p, a.steer.snapshot.get p = snapOf s.setup.profile (agePeer (s.peer p))
  peerHold : a.steer.peerHold = true ↔ ∃ p, 0 < (agePeer (s.peer p)).hold
  due : a.due = s.due.erase .epochMark
  frame : { a with
    floor := s.floor, steer := s.steer, peers := s.peers, lostNotice := s.lostNotice, gradeNotice := s.gradeNotice, due := s.due
    bus := { a.bus with hold := s.bus.hold, flight := s.bus.flight } } = s

theorem exists_peer_iff {ps : Vector Peer 12} {f : Peer → Bool} : ps.toList.any f = true ↔ ∃ p : PeerNo, f (ps.get p) = true := by
  simp only [List.any_eq_true, Vector.mem_toList_iff, Vector.mem_iff_getElem]
  constructor
  · rintro ⟨e, ⟨i, small, rfl⟩, holds⟩
    exact ⟨⟨i, small⟩, holds⟩
  · rintro ⟨p, holds⟩
    exact ⟨_, ⟨p.val, p.isLt, rfl⟩, holds⟩

theorem handed_spec (s : State) : Handed s s.handed := by
  obtain ⟨floor, frame⟩ := noticesFirst_spec (s.took .epochMark)
  unfold State.handed
  generalize noticesFirst (s.took .epochMark) = n at *
  have peers : n.peers = s.peers := (congrArg State.peers frame :)
  have setup : n.setup = s.setup := (congrArg State.setup frame :)
  have generation : n.floor.generation = s.floor.generation := (congrArg Floor.generation floor :)
  have state : n.floor.state = s.floor.state := (congrArg Floor.state floor :)
  have listen : n.floor.listen = s.floor.listen := (congrArg Floor.listen floor :)
  unfold peerEpochWork
  exact {
    floor := by
      dsimp only
      rw [state, listen, floor]
      rfl
    peer := fun p => by simp only [State.peer, mapPeers_get, peers, generation]
    snapshot := fun p => by simp only [State.peer, snapshotOf_get, mapPeers_get, peers, setup]
    peerHold := by
      dsimp only
      rw [exists_peer_iff]
      simp only [mapPeers_get, decide_eq_true_eq, peers]
      rfl
    due := (congrArg State.due frame :)
    frame := (congrArg (fun u : State => { u with peers := s.peers, due := s.due }) frame :) }

/-- Without a lost notice, and outside ANCHORED, the hand-over touches no more than the peers. -/
structure QuietlyHanded (s a : State) : Prop where
  floor : a.floor = { s.floor with listen := if s.floor.state = .start then bump 4 s.floor.listen else s.floor.listen }
  steer : a.steer = { s.steer with snapshot := a.steer.snapshot, peerHold := a.steer.peerHold }
  lostNotice : a.lostNotice = none
  frame : { a with
    floor := s.floor, steer := s.steer, peers := s.peers, lostNotice := s.lostNotice, gradeNotice := s.gradeNotice
    due := s.due } = s

theorem handed_of_none {s : State} (h : s.lostNotice = none ∨ s.steer.role ≠ some .anchored) : QuietlyHanded s s.handed := by
  have first : noticesFirst (s.took .epochMark) = { s.took .epochMark with lostNotice := none, gradeNotice := none } :=
    noticesFirst_of_none h
  unfold State.handed
  rw [first]
  exact ⟨rfl, rfl, rfl, rfl⟩

/-- Only what an epoch mark may write differs. -/
theorem OnlyEpochMark.of_parts {s a c t : State} (handed : Handed s a) (steers : Steers a c)
    (floor : t.floor = { c.floor with
      residue := t.floor.residue, kind := t.floor.kind, listenEnded := t.floor.listenEnded, epochFirst := t.floor.epochFirst })
    (rest : { t with floor := c.floor, steer := c.steer } = c) : OnlyEpochMark s t := by
  have lines : ∀ l, a.line l = s.line l := fun l => (congrArg (fun u : State => u.line l) handed.frame :)
  have bus : t.bus = c.bus := (congrArg State.bus rest :)
  have busA : { a.bus with hold := s.bus.hold, flight := s.bus.flight } = s.bus := (congrArg State.bus handed.frame :)
  have busC : { c.bus with hold := a.bus.hold, flight := a.bus.flight } = a.bus := (congrArg State.bus steers.frame :)
  have due : t.due = s.due.erase .epochMark := ((congrArg State.due rest :).trans (congrArg State.due steers.frame :)).trans handed.due
  refine ⟨fun l => ?_, due, ?_, ?_, ?_, ?_, ?_⟩
  · have line : t.line l = c.line l := (congrArg (fun u : State => u.line l) rest :)
    rw [line, ← lines l]
    exact steers.line l
  · rw [floor, steers.floor, handed.floor]
  · rw [floor, steers.floor, handed.floor]
  · rw [floor, steers.floor, handed.floor]
  · rw [floor, steers.floor, handed.floor]
  · have busT : { t.bus with hold := s.bus.hold, flight := s.bus.flight } = s.bus := by
      rw [bus]
      exact (congrArg (fun b : Bus => { b with hold := s.bus.hold, flight := s.bus.flight }) busC :).trans busA
    rw [busT]
    have tc := (congrArg (fun u : State => { u with
      lines := s.lines, floor := s.floor, steer := s.steer, peers := s.peers, selected := s.selected
      lostNotice := s.lostNotice, gradeNotice := s.gradeNotice, due := s.due, bus := s.bus }) rest :)
    have ca := (congrArg (fun u : State => { u with
      lines := s.lines, floor := s.floor, steer := s.steer, peers := s.peers, selected := s.selected
      lostNotice := s.lostNotice, gradeNotice := s.gradeNotice, due := s.due, bus := s.bus }) steers.frame :)
    have as := (congrArg (fun u : State => { u with bus := s.bus, selected := s.selected, lines := s.lines }) handed.frame :)
    exact (tc.trans ca).trans as

/-! ### The mark as a whole -/

theorem historyStep_frame (f : Floor) (t : Steer) : historyStep f t = { t with
    runCount := (historyStep f t).runCount, historyValid := (historyStep f t).historyValid
    ring := (historyStep f t).ring, holdAge := (historyStep f t).holdAge } := by
  unfold historyStep
  split <;> rfl

/-- What the end of the mark adds to what the computation or the listen mark left in `c`. -/
structure Closes (ending : Bool) (c t : State) : Prop where
  floor : t.floor = { c.floor with
    residue := t.floor.residue, kind := t.floor.kind, listenEnded := c.floor.listenEnded || ending, epochFirst := true }
  adds : (65536 ≤ c.floor.residue + c.floor.freq → t.floor.kind = .short ∧ t.floor.residue = c.floor.residue + c.floor.freq - 65536)
    ∧ (c.floor.residue + c.floor.freq ≤ -65536 → t.floor.kind = .long ∧ t.floor.residue = c.floor.residue + c.floor.freq + 65536)
    ∧ ((c.floor.residue + c.floor.freq).natAbs ≤ 65535 → t.floor.kind = .normal ∧ t.floor.residue = c.floor.residue + c.floor.freq)
  steer : t.steer = { c.steer with
    runCount := t.steer.runCount, historyValid := t.steer.historyValid, ring := t.steer.ring, holdAge := t.steer.holdAge }
  rest : { t with floor := c.floor, steer := c.steer } = c

theorem closed_closes (ending : Bool) (c : State) : Closes ending c (State.closed ending c) := by
  have adds := Floor.addFreq_spec { c.floor with listenEnded := c.floor.listenEnded || ending }
  have floor := Floor.addFreq_frame { c.floor with listenEnded := c.floor.listenEnded || ending }
  have steer := historyStep_frame c.floor c.steer
  unfold State.closed
  generalize ({ c.floor with listenEnded := c.floor.listenEnded || ending } : Floor).addFreq = g at *
  generalize historyStep c.floor c.steer = h at *
  exact {
    floor := by
      dsimp only
      rw [floor]
    adds := adds
    steer := steer
    rest := rfl }

theorem listened_closes (a : State) : Closes false a a.listened := by
  have adds := Floor.addFreq_spec a.floor
  have floor := Floor.addFreq_frame a.floor
  unfold State.listened
  generalize a.floor.addFreq = g at *
  exact {
    floor := by
      dsimp only
      rw [floor, Bool.or_false]
    adds := adds
    steer := rfl
    rest := rfl }

theorem Steers.refl (s : State) : Steers s s := ⟨fun _ => rfl, rfl, rfl, rfl, rfl⟩

/-- An epoch mark outside LOADING hands over the peers, computes, except at the first three listen marks, and closes (R67). -/
theorem exec_epochMark_cases {s : State} (runs : s.running = true) :
    (s.floor.state = .start ∧ s.floor.listen < 3 ∧ exec .epochMark s = .next s.handed.listened)
      ∨ ((s.floor.state = .start → 3 ≤ s.floor.listen) ∧ ∃ c, Computed (s.floor.state == .start) s.handed c
        ∧ exec .epochMark s = .next (State.closed (s.floor.state == .start) c)) := by
  by_cases listening : s.floor.state = .start ∧ s.floor.listen < 3
  · exact .inl ⟨listening.1, listening.2, exec_epochMark_listening listening.1 listening.2⟩
  · have late : s.floor.state = .start → 3 ≤ s.floor.listen := fun start => Nat.le_of_not_lt fun early => listening ⟨start, early⟩
    exact .inr ⟨late, _, compute_spec _ s.handed, exec_epochMark_computing runs late⟩

/-- The parts of an epoch mark. -/
theorem exec_epochMark_parts {s : State} (runs : s.running = true) : ∃ c t ending, exec .epochMark s = .next t ∧ Steers s.handed c
    ∧ Closes ending c t ∧ (ending = true ↔ s.floor.state = .start ∧ 3 ≤ s.floor.listen) := by
  obtain ⟨start, early, run⟩ | ⟨late, c, computed, run⟩ := exec_epochMark_cases runs
  · exact ⟨_, _, false, run, .refl _, listened_closes _, by simp; omega⟩
  · refine ⟨_, _, _, run, computed.steers, closed_closes _ c, ?_⟩
    rw [beq_iff_eq]
    exact ⟨fun start => ⟨start, late start⟩, fun h => h.1⟩

/-- Settles O31: the peers by `handed_spec`, the listen marks by `exec_epochMark_listening`, the addition of F by `Closes`. -/
theorem epochMarkTakesPeers : Obligations.EpochMarkTakesPeers := by
  intro s runs
  obtain ⟨c, t, ending, run, steers, closes, fourth⟩ := exec_epochMark_parts runs
  have handed := handed_spec s
  have peers : ∀ p, t.peer p = s.handed.peer p := fun p =>
    (congrArg (fun u : State => u.peer p) closes.rest :).trans (congrArg (fun u : State => u.peer p) steers.frame :)
  have snapshot : t.steer.snapshot = s.handed.steer.snapshot := (congrArg Steer.snapshot closes.steer :).trans steers.snapshot
  have peerHold : t.steer.peerHold = s.handed.steer.peerHold := (congrArg Steer.peerHold closes.steer :).trans steers.peerHold
  have residue : c.floor.residue = s.floor.residue := (congrArg Floor.residue steers.floor :).trans (congrArg Floor.residue handed.floor :)
  have freq : c.floor.freq = t.floor.freq := (congrArg Floor.freq closes.floor :).symm
  have listen : t.floor.listen = if s.floor.state = .start then bump 4 s.floor.listen else s.floor.listen :=
    ((congrArg Floor.listen closes.floor :).trans (congrArg Floor.listen steers.floor :)).trans (congrArg Floor.listen handed.floor :)
  have ended : t.floor.listenEnded = (s.floor.listenEnded || ending) := by
    have same : c.floor.listenEnded = s.floor.listenEnded :=
      (congrArg Floor.listenEnded steers.floor :).trans (congrArg Floor.listenEnded handed.floor :)
    rw [← same]
    exact (congrArg Floor.listenEnded closes.floor :)
  have adds := closes.adds
  rw [residue, freq] at adds
  obtain ⟨short, long, normal⟩ := adds
  refine ⟨t, run, fun p absent => ?_, fun p present old => ?_, fun p present young => ?_, ?_, fun start early role => ?_, short, long,
    normal, (congrArg Floor.epochFirst closes.floor :), fun h => ⟨?_, ?_⟩, fun out => ?_, fun out => ?_,
    .of_parts handed steers ?_ closes.rest⟩
  · rw [peers, snapshot, handed.peer, handed.snapshot, agePeer_absent absent]
    simp [afterHandOver, snapOf, absent]
  · rw [peers, snapshot, handed.peer, handed.snapshot, agePeer_old present old]
    exact ⟨rfl, rfl⟩
  · have aged : ¬ (if (s.peer p).state = .active ∧ 1 ≤ (s.peer p).sinceTiming then PeerState.stale else (s.peer p).state) = .absent := by
      split
      · decide
      · exact present
    rw [peers, snapshot, handed.peer, handed.snapshot, agePeer_young present young]
    unfold afterHandOver snapOf
    rw [if_neg aged, if_neg aged]
    exact ⟨rfl, rfl⟩
  · rw [peerHold, handed.peerHold]
    simp only [agePeer_hold]
    refine exists_congr fun p => ?_
    split
    · next h => exact (and_iff_left h).symm
    · next h => exact iff_of_false (by omega) fun g => h g.2
  · have quiet := handed_of_none (.inr (by rw [role]; decide))
    have floor := (listened_closes s.handed).floor
    rw [quiet.floor] at floor
    rw [Host.Outcome.next.inj (run.symm.trans (exec_epochMark_listening start early))]
    refine ⟨?_, (congrArg Floor.state floor :).trans start, (congrArg Floor.freq floor :), (congrArg Floor.integral floor :),
      (congrArg Floor.generation floor :), (congrArg Floor.shift floor :), (congrArg State.lines quiet.frame :),
      (congrArg State.bus quiet.frame :), (congrArg State.selected quiet.frame :), ?_⟩
    · have counted : s.handed.listened.floor.listen = if s.floor.state = .start then bump 4 s.floor.listen else s.floor.listen :=
        (congrArg Floor.listen floor :)
      rw [counted, if_pos start]
      exact if_pos (by omega)
    · unfold State.listened
      dsimp only
      rw [quiet.steer]
      rfl
  · rw [listen, if_pos h.1, h.2]
    rfl
  · rw [ended, fourth.mpr ⟨h.1, by omega⟩, Bool.or_true]
  · rw [listen, if_neg out]
  · have still : ending = false := by
      rw [← Bool.not_eq_true, fourth]
      exact fun h => out.elim (fun other => other h.1) fun early => by omega
    rw [ended, still, Bool.or_false]
  · rw [closes.floor]

end Sys2Proof.Machine
end

section
/-! EPOCH_MARK: role and leading grade, the build-out offset and the own hold (05, sections 5.2 and 5.3; R84 to R88). -/

namespace Sys2Proof.Machine

/-! ### Source peers (R85) -/

theorem isSource_iff {t : State} {p : PeerNo} {g : Nat} : IsSource t p g ↔ sourceGrade (t.steer.snapshot.get p) = some g := by
  unfold IsSource sourceGrade
  cases (t.steer.snapshot.get p).announced with
  | none => simp
  | some a =>
    simp only [Option.map_some, Option.some.injEq, ne_eq]
    split
    · next h =>
      obtain ⟨active, profile, role, low, high⟩ := h
      rw [Option.some.injEq]
      exact ⟨fun h => h.2.2.2.2.1, fun same => ⟨active, profile, same ▸ low, same ▸ high, same, role⟩⟩
    · next h =>
      refine iff_of_false (fun ⟨active, profile, low, high, same, role⟩ => h ⟨active, profile, role, ?_, ?_⟩) (by simp)
      · rw [same]
        exact low
      · rw [same]
        exact high

theorem bestOf_spec (a b : Option Nat) : (∀ x, (∀ y, bestOf a b = some y → x ≤ y) ↔ (∀ y, a = some y → x ≤ y) ∧ ∀ y, b = some y → x ≤ y)
    ∧ ∀ y, bestOf a b = some y → a = some y ∨ b = some y := by
  cases a with
  | none => cases b <;> simp [bestOf]
  | some u =>
    cases b with
    | none => simp [bestOf]
    | some v =>
      simp only [bestOf, Option.some.injEq, forall_eq']
      exact ⟨fun x => le_min_iff, by omega⟩

theorem foldl_bestOf_spec {f : PeerSnap → Option Nat} (ls : List PeerSnap) (a : Option Nat) :
    (∀ x, (∀ y, ls.foldl (fun a p => bestOf a (f p)) a = some y → x ≤ y)
        ↔ (∀ y, a = some y → x ≤ y) ∧ ∀ p ∈ ls, ∀ y, f p = some y → x ≤ y)
      ∧ ∀ y, ls.foldl (fun a p => bestOf a (f p)) a = some y → a = some y ∨ ∃ p ∈ ls, f p = some y := by
  induction ls generalizing a with
  | nil => simp
  | cons p ls ih =>
    obtain ⟨below, among⟩ := ih (bestOf a (f p))
    obtain ⟨both, either⟩ := bestOf_spec a (f p)
    refine ⟨fun x => ?_, fun y found => ?_⟩
    · rw [List.foldl_cons, below, both, List.forall_mem_cons, and_assoc]
    · obtain found | ⟨q, member, found⟩ := among y found
      · exact (either y found).imp id fun h => ⟨p, List.mem_cons_self .., h⟩
      · exact .inr ⟨q, List.mem_cons_of_mem p member, found⟩

theorem forall_mem_toList {α : Type} {ps : Vector α 12} {P : α → Prop} : (∀ x ∈ ps.toList, P x) ↔ ∀ p : PeerNo, P (ps.get p) := by
  simp only [Vector.mem_toList_iff, Vector.mem_iff_getElem]
  exact ⟨fun h p => h _ ⟨p.val, p.isLt, rfl⟩, fun h x ⟨i, small, same⟩ => same ▸ h ⟨i, small⟩⟩

/-- The best grade that a source peer announces: a grade is no worse than it as it is no worse than any source's. -/
theorem bestPeer_spec {t : State} {ps : Vector PeerSnap 12} (same : t.steer.snapshot = ps) :
    (∀ x, (∀ p g, IsSource t p g → x ≤ g) ↔ ∀ b, bestPeer ps = some b → x ≤ b)
      ∧ ∀ b, bestPeer ps = some b → ∃ p, IsSource t p b := by
  subst same
  obtain ⟨below, among⟩ := foldl_bestOf_spec (f := sourceGrade) t.steer.snapshot.toList none
  unfold bestPeer
  refine ⟨fun x => ?_, fun b found => ?_⟩
  · rw [below, forall_mem_toList]
    simp [isSource_iff]
  · obtain found | ⟨q, member, found⟩ := among b found
    · exact absurd found (by simp)
    · obtain ⟨i, small, at_⟩ := Vector.mem_iff_getElem.mp (Vector.mem_toList_iff.mp member)
      refine ⟨⟨i, small⟩, isSource_iff.mpr ?_⟩
      rw [← at_] at found
      exact found

/-! ### The role table (R86) -/

theorem decideRole_cases (line peer : Option Nat) (fallback : Nat) :
    (∃ g, line = some g ∧ (∀ b, peer = some b → g ≤ b) ∧ decideRole line peer fallback = (.anchored, g))
      ∨ ((∀ g, line = some g → ∃ b, peer = some b ∧ b < g)
        ∧ ((∃ b, peer = some b ∧ b < fallback ∧ decideRole line peer fallback = (.following, b))
          ∨ ((∀ b, peer = some b → fallback ≤ b)
            ∧ decideRole line peer fallback = if fallback = 4 then (.holding, 4) else (.free, 5)))) := by
  cases line with
  | none =>
    refine .inr ⟨by simp, ?_⟩
    cases peer with
    | none => exact .inr ⟨by simp, rfl⟩
    | some b =>
      by_cases lower : b < fallback
      · exact .inl ⟨b, rfl, lower, if_pos lower⟩
      · exact .inr ⟨by simp; omega, if_neg lower⟩
  | some g =>
    cases peer with
    | none => exact .inl ⟨g, rfl, by simp, rfl⟩
    | some b =>
      by_cases leads : g ≤ b
      · exact .inl ⟨g, rfl, by simpa using leads, if_pos leads⟩
      · refine .inr ⟨fun x h => ⟨b, rfl, by have := Option.some.inj h; omega⟩, ?_⟩
        by_cases lower : b < fallback
        · exact .inl ⟨b, rfl, lower, (if_neg leads).trans (if_pos lower)⟩
        · exact .inr ⟨by simp; omega, (if_neg leads).trans (if_neg lower)⟩

/-! ### A mark with a computation and no lost notice -/

/-- An epoch mark of `s` that computes, without a lost notice: `a` is handed over, the computation leaves `c`, and the mark `t`. -/
structure Marks (s a c t : State) : Prop where
  handed : Handed s a
  quiet : QuietlyHanded s a
  computed : Computed (s.floor.state == .start) a c
  closes : Closes (s.floor.state == .start) c t
  history : t.steer = historyStep c.floor c.steer

theorem exec_epochMark_marks {s : State} (runs : s.running = true) (lost : s.lostNotice = none)
    (late : s.floor.state = .start → 3 ≤ s.floor.listen) : ∃ a c t, exec .epochMark s = .next t ∧ Marks s a c t :=
  ⟨_, _, _, exec_epochMark_computing runs late, handed_spec s, handed_of_none (.inl lost), compute_spec _ _, closed_closes _ _, rfl⟩

theorem Computes.late {s : State} (computes : Computes s) : s.floor.state = .start → 3 ≤ s.floor.listen := fun start => by
  obtain acquire | track | fourth := computes
  · exact absurd (start.symm.trans acquire) (by decide)
  · exact absurd (start.symm.trans track) (by decide)
  · omega

section
variable {s a c t : State}

theorem Marks.only (marks : Marks s a c t) : OnlyEpochMark s t :=
  .of_parts marks.handed marks.computed.steers (by rw [marks.closes.floor]) marks.closes.rest

/-- The steering part after the mark. -/
theorem Marks.steer (marks : Marks s a c t) : t.steer = { a.ledSteer with
    ownHold := a.heldAt - 1, offset := if a.jumping (s.floor.state == .start) then none else a.ledSteer.offset
    recordAnchor := t.steer.recordAnchor, recordMean := a.meanError, deferredHold := t.steer.deferredHold
    runCount := t.steer.runCount, historyValid := t.steer.historyValid, ring := t.steer.ring, holdAge := t.steer.holdAge } := by
  have record : t.steer.recordAnchor = c.steer.recordAnchor := (congrArg Steer.recordAnchor marks.closes.steer :)
  have deferred : t.steer.deferredHold = c.steer.deferredHold := (congrArg Steer.deferredHold marks.closes.steer :)
  rw [record, deferred]
  have closed := marks.closes.steer
  have steer := marks.computed.steer
  generalize t.steer = x at *
  generalize c.steer = y at *
  rw [closed, steer]
  rfl

theorem Marks.role (marks : Marks s a c t) : t.steer.role = some a.lead.1 := (congrArg Steer.role marks.steer :)
theorem Marks.leading (marks : Marks s a c t) : t.steer.leading = some a.lead.2 := (congrArg Steer.leading marks.steer :)
theorem Marks.announced (marks : Marks s a c t) : t.steer.announced = a.lead.2 := (congrArg Steer.announced marks.steer :)
theorem Marks.snapshot (marks : Marks s a c t) : t.steer.snapshot = a.steer.snapshot := (congrArg Steer.snapshot marks.steer :)

theorem Marks.selected (marks : Marks s a c t) : a.selected = s.selected := (congrArg State.selected marks.quiet.frame :)
theorem Marks.setup (marks : Marks s a c t) : a.setup = s.setup := (congrArg State.setup marks.quiet.frame :)
theorem Marks.line (marks : Marks s a c t) (l : LineNo) : a.line l = s.line l := (congrArg (fun u : State => u.line l) marks.quiet.frame :)

/-- Role and leading grade are decided from what stands at the mark (R86). -/
theorem Marks.lead (marks : Marks s a c t) : a.lead = decideRole (s.selected.map fun l => (s.line l).lrx.grade)
    (bestPeer t.steer.snapshot) (fallbackGrade s.setup s.steer) := by
  have grade : a.selectedGrade = s.selected.map fun l => (s.line l).lrx.grade := by
    unfold State.selectedGrade
    simp only [marks.selected, marks.line]
  have fallback : fallbackGrade a.setup a.steer = fallbackGrade s.setup s.steer := by
    rw [marks.setup, marks.quiet.steer]
    rfl
  unfold State.lead
  rw [grade, fallback, marks.snapshot]

end

/-- Settles O32, by the cases of the role table. -/
theorem epochMarkDecidesRole : Obligations.EpochMarkDecidesRole := by
  intro s runs computes lost
  obtain ⟨a, c, t, run, marks⟩ := exec_epochMark_marks runs lost computes.late
  refine ⟨t, run, ?_⟩
  obtain ⟨below, among⟩ := bestPeer_spec (t := t) rfl
  have leads : ∀ l, LineLeads s t l ↔ s.selected = some l ∧ ∀ b, bestPeer t.steer.snapshot = some b → (s.line l).lrx.grade ≤ b :=
    fun l => and_congr_right fun _ => below _
  have lead := marks.lead
  rw [marks.role, marks.leading, marks.announced]
  obtain ⟨g, line, ahead, decided⟩ | ⟨behind, rest⟩ := decideRole_cases (s.selected.map fun l => (s.line l).lrx.grade)
    (bestPeer t.steer.snapshot) (fallbackGrade s.setup s.steer)
  · obtain ⟨l, selected, rfl⟩ := Option.map_eq_some_iff.mp line
    have anchor : LineLeads s t l := (leads l).mpr ⟨selected, ahead⟩
    rw [lead, decided]
    refine ⟨iff_of_true rfl ⟨l, anchor⟩, iff_of_false (by simp) fun h => h.1 l anchor, iff_of_false (by simp) fun h => h.1 l anchor,
      iff_of_false (by simp) fun h => h.1 l anchor, fun m leads => ?_, by simp, by simp, by simp, rfl, marks.only⟩
    obtain rfl := Option.some.inj (selected.symm.trans leads.1)
    rfl
  · have nobody : ∀ l, ¬ LineLeads s t l := fun l h => by
      obtain ⟨selected, ahead⟩ := (leads l).mp h
      obtain ⟨b, best, lower⟩ := behind (s.line l).lrx.grade (by rw [selected]; rfl)
      exact absurd (ahead b best) (by omega)
    obtain ⟨b, best, lower, decided⟩ | ⟨high, decided⟩ := rest
    · obtain ⟨p, source⟩ := among b best
      have not_own : ¬ ∀ q g, IsSource t q g → fallbackGrade s.setup s.steer ≤ g := fun h => absurd (h p b source) (by omega)
      rw [lead, decided]
      exact ⟨iff_of_false (by simp) fun ⟨l, h⟩ => nobody l h, iff_of_true rfl ⟨nobody, p, b, source, lower⟩,
        iff_of_false (by simp) fun h => not_own h.2.1, iff_of_false (by simp) fun h => not_own h.2.1, fun l h => absurd h (nobody l),
        fun _ => ⟨⟨p, source⟩, (below b).mpr fun x h => by rw [Option.some.inj (best.symm.trans h)]⟩, by simp, by simp, rfl,
        marks.only⟩
    · have own := (below (fallbackGrade s.setup s.steer)).mpr high
      have no_source : ¬ ∃ p g, IsSource t p g ∧ g < fallbackGrade s.setup s.steer := fun ⟨p, g, source, lower⟩ =>
        absurd (own p g source) (by omega)
      rw [lead, decided]
      obtain ⟨valid, young, grade⟩ | ⟨out, grade⟩ := fallbackGrade_cases s.setup s.steer
      · rw [if_pos grade]
        exact ⟨iff_of_false (by simp) fun ⟨l, h⟩ => nobody l h, iff_of_false (by simp) fun h => no_source h.2,
          iff_of_true rfl ⟨nobody, own, valid, young⟩, iff_of_false (by simp) fun h => h.2.2 ⟨valid, young⟩,
          fun l h => absurd h (nobody l), by simp, fun _ => rfl, by simp, rfl, marks.only⟩
      · rw [if_neg (by omega)]
        exact ⟨iff_of_false (by simp) fun ⟨l, h⟩ => nobody l h, iff_of_false (by simp) fun h => no_source h.2,
          iff_of_false (by simp) fun h => out h.2.2, iff_of_true rfl ⟨nobody, own, out⟩,
          fun l h => absurd h (nobody l), by simp, by simp, fun _ => rfl, rfl, marks.only⟩

/-! ### A change of lead (R84, R86, R88) -/

section
variable {s a c t : State}

theorem Marks.phase (marks : Marks s a c t) : a.selectedPhase = s.selected.bind fun l => (s.line l).mon.handedPhase := by
  unfold State.selectedPhase
  simp only [marks.selected, marks.line]

/-- Role, anchor and offset before the mark stand at the hand-over. -/
theorem Marks.steer_before (marks : Marks s a c t) : a.steer.role = s.steer.role ∧ a.steer.anchor = s.steer.anchor
    ∧ a.steer.offset = s.steer.offset ∧ a.steer.recordAnchor = s.steer.recordAnchor ∧ a.steer.ownHold = s.steer.ownHold
    ∧ a.steer.recordMean = s.steer.recordMean ∧ a.steer.ring = s.steer.ring ∧ a.steer.holdover = s.steer.holdover := by
  rw [marks.quiet.steer]
  exact ⟨rfl, rfl, rfl, rfl, rfl, rfl, rfl, rfl⟩

/-- The mark calls for a HOLD as the lead changes into, out of or within ANCHORED (R86). -/
theorem Marks.calls (marks : Marks s a c t) : callsHold a.steer a.lead.1 a.selected = true ↔
    (t.steer.role = some .anchored ∧ (s.steer.role ≠ some .anchored ∨ s.steer.anchor ≠ s.selected))
      ∨ (t.steer.role ≠ some .anchored ∧ s.steer.role = some .anchored) := by
  obtain ⟨role, anchor, -⟩ := marks.steer_before
  unfold callsHold
  rw [role, anchor, marks.selected, marks.role]
  by_cases anchored : a.lead.1 = .anchored
  · simp [anchored]
  · simp [anchored]

/-- Without a jump the generation stands, and with one it moves, where it can. -/
theorem Marks.generation (marks : Marks s a c t) : t.floor.generation
    = if a.jumping (s.floor.state == .start) then bump Config.max32 s.floor.generation else s.floor.generation := by
  have same : a.floor.generation = s.floor.generation := (congrArg Floor.generation marks.quiet.floor :)
  have floor : t.floor.generation = c.floor.generation := (congrArg Floor.generation marks.closes.floor :)
  rw [floor, marks.computed.floor, computedFloor_frame, ← same]

theorem Marks.bus (marks : Marks s a c t) : if callsHold a.steer a.lead.1 a.selected then HoldSubmitted s.setup.holdEpochs s t
    else t.bus = s.bus ∧ t.steer.deferredHold = s.steer.deferredHold := by
  have hold := marks.computed.hold
  have bus : t.bus = c.bus := (congrArg State.bus marks.closes.rest :)
  have busA : a.bus = s.bus := (congrArg State.bus marks.quiet.frame :)
  have deferred : t.steer.deferredHold = c.steer.deferredHold := (congrArg Steer.deferredHold marks.closes.steer :)
  have deferredA : s.steer.deferredHold = a.steer.deferredHold := (congrArg Steer.deferredHold marks.quiet.steer :).symm
  cases calls : callsHold a.steer a.lead.1 a.selected with
  | true =>
    rw [calls, marks.setup] at hold
    exact HoldSubmitted.of_same hold (congrArg State.loader marks.quiet.frame :).symm (congrArg State.duplicate marks.quiet.frame :).symm
      busA.symm deferredA (congrArg State.duplicate marks.closes.rest :) bus deferred
  | false =>
    rw [calls] at hold
    exact ⟨(bus.trans hold.1).trans busA, (deferred.trans hold.2).trans deferredA.symm⟩

/-- The anchor after part 2 (R84). -/
theorem Marks.ledAnchor (marks : Marks s a c t) : a.ledSteer.anchor = if t.steer.role = some .anchored then s.selected
    else if s.steer.role = some .anchored then none else s.steer.anchor := by
  obtain ⟨role, anchor, -⟩ := marks.steer_before
  have led := (congrArg Steer.anchor (anchorStep_eq a.lead.1 a.selected a.selectedPhase a.steer) :)
  rw [marks.role]
  simp only [Option.some.injEq]
  refine Eq.trans led ?_
  rw [role, anchor, marks.selected]

/-- The offset after part 2 (R84). -/
theorem Marks.ledOffset (marks : Marks s a c t) : a.ledSteer.offset = if t.steer.role = some .anchored then
      if s.steer.role ≠ some .anchored ∨ s.steer.anchor ≠ s.selected then s.selected.bind fun l => (s.line l).mon.handedPhase
      else s.steer.offset.or (s.selected.bind fun l => (s.line l).mon.handedPhase)
    else if s.steer.role = some .anchored then none else s.steer.offset := by
  obtain ⟨role, -, offset, -⟩ := marks.steer_before
  have calls := marks.calls
  have led := (congrArg Steer.offset (anchorStep_eq a.lead.1 a.selected a.selectedPhase a.steer) :)
  refine Eq.trans led ?_
  rw [role, offset, marks.phase]
  by_cases anchored : a.lead.1 = .anchored
  · have now : t.steer.role = some .anchored := by rw [marks.role, anchored]
    rw [if_pos anchored, if_pos now]
    refine if_congr ?_ rfl rfl
    rw [calls]
    simp [now]
  · have now : t.steer.role ≠ some .anchored := by rw [marks.role]; simpa using anchored
    rw [if_neg anchored, if_neg now]

/-- Without a jump the offset is that of part 2; a jump moves the generation, where it can. -/
theorem Marks.offset_of_generation (marks : Marks s a c t) (same : t.floor.generation = s.floor.generation)
    (small : s.floor.generation < 4294967295) : t.steer.offset = a.ledSteer.offset := by
  have offset := (congrArg Steer.offset marks.steer :)
  cases jump : a.jumping (s.floor.state == .start) with
  | false =>
    rw [jump] at offset
    exact offset
  | true =>
    have moved := marks.generation
    rw [jump, if_pos rfl, same] at moved
    have grows : bump Config.max32 s.floor.generation = s.floor.generation + 1 := if_pos small
    omega

theorem Marks.ownHold (marks : Marks s a c t) :
    t.steer.ownHold = (if callsHold a.steer a.lead.1 a.selected then s.setup.holdEpochs else s.steer.ownHold) - 1 := by
  obtain ⟨-, -, -, -, own, -⟩ := marks.steer_before
  rw [← own, ← marks.setup]
  exact (congrArg Steer.ownHold marks.steer :)

end

/-- Settles O33: anchor and offset by `Marks.ledAnchor` and `Marks.ledOffset`, the hold by `Marks.calls` and `Marks.bus`. -/
theorem changeOfLeadHolds : Obligations.ChangeOfLeadHolds := by
  intro s runs computes lost
  obtain ⟨a, c, t, run, marks⟩ := exec_epochMark_marks runs lost computes.late
  refine ⟨t, run, ?_⟩
  have calls := marks.calls
  have bus := marks.bus
  have hold := marks.ownHold
  have anchor : t.steer.anchor = a.ledSteer.anchor := (congrArg Steer.anchor marks.steer :)
  have offset := marks.offset_of_generation
  rw [marks.ledAnchor] at anchor
  rw [marks.ledOffset] at offset
  refine ⟨fun now moved => ?_, fun now was same => ?_, fun now was => ?_, fun now was => ?_, marks.only⟩
  · have called := calls.mpr (.inl ⟨now, moved⟩)
    rw [called] at bus hold
    rw [if_pos now] at anchor
    rw [if_pos now, if_pos moved] at offset
    exact ⟨anchor, offset, hold, bus⟩
  · have stays : ¬ (s.steer.role ≠ some .anchored ∨ s.steer.anchor ≠ s.selected) := by simp [was, same]
    have called : callsHold a.steer a.lead.1 a.selected = false := by
      rw [← Bool.not_eq_true, calls]
      simp [now, was, same]
    rw [called] at bus hold
    rw [if_pos now] at anchor
    rw [if_pos now, if_neg stays] at offset
    refine ⟨anchor.trans same.symm, hold, bus.1, fun generation small => (offset generation small).trans ?_⟩
    cases s.steer.offset <;> rfl
  · have called := calls.mpr (.inr ⟨now, was⟩)
    rw [called] at bus hold
    rw [if_neg now, if_pos was] at anchor
    have none : t.steer.offset = none := by
      have jumped := (congrArg Steer.offset marks.steer :)
      rw [marks.ledOffset, if_neg now, if_pos was, ite_self] at jumped
      exact jumped
    exact ⟨anchor, none, hold, bus⟩
  · have called : callsHold a.steer a.lead.1 a.selected = false := by
      rw [← Bool.not_eq_true, calls]
      simp [now, was]
    rw [called] at bus hold
    exact ⟨hold, bus.1⟩

end Sys2Proof.Machine
end

section
/-! EPOCH_MARK: the errors, the jump, the lock tests, the loop filter and the history (04, section 4.5; 05, sections 5.3 to 5.6). -/

namespace Sys2Proof.Machine

/-! ### The terms of a computation, read from the mark (R82, R83, R91, R92) -/

theorem contribution_eq (gen lead : Nat) (p : PeerSnap) :
    p.contribution gen lead = if sourceGrade p = some lead then peerTerm gen p else none := by
  unfold PeerSnap.contribution sourceGrade peerTerm
  cases p.announced with
  | none => simp
  | some x =>
    dsimp only
    by_cases source : p.state = .active ∧ p.profileMatches = true ∧ x.role ≠ .following ∧ 1 ≤ x.grade ∧ x.grade ≤ 5
    · obtain ⟨active, profile, role, low, high⟩ := source
      by_cases same : x.grade = lead
      · subst same
        simp [active, profile, role, low, high]
      · simp [active, profile, role, low, high, same]
    · simp only [if_neg source, reduceCtorEq, if_false]
      exact if_neg fun ⟨active, profile, role, same, low, high, _⟩ => source ⟨active, profile, role, same ▸ low, same ▸ high⟩

theorem toList_eq_map {α : Type} (ps : Vector α 12) : ps.toList = allPeers.map ps.get := by
  refine List.ext_getElem (by simp [allPeers]) fun i h _ => ?_
  have small : i < 12 := by simpa using h
  have at_ : ∀ j : Fin 12, allPeers[j.val]'(by simp [allPeers]) = j := by decide
  rw [List.getElem_map, at_ ⟨i, small⟩]
  simp [Vector.get]

theorem combine_none (w : Nat) (peers : List Int) (gain : Nat) : combine w gain peers none
    = if w = 0 ∨ peers = [] then none else some (roundDiv (w * peers.sum) (w * peers.length)) := by
  have total : w * peers.length = 0 ↔ w = 0 ∨ peers = [] := by simp
  unfold combine
  simp [total]

theorem combine_some (w : Nat) (peers : List Int) (gain : Nat) (x : Int) : combine w gain peers (some x)
    = if w = 0 ∨ peers.length + gain = 0 then none
      else some (roundDiv (w * (peers.sum + gain * x)) (w * (peers.length + gain))) := by
  have total : w * peers.length + w * gain = 0 ↔ w = 0 ∨ peers.length + gain = 0 := by
    rw [← Nat.mul_add, Nat.mul_eq_zero]
  unfold combine
  simp only [Option.isSome_some, if_true, total, Option.getD_some]
  refine if_congr Iff.rfl rfl ?_
  rw [Nat.mul_add, mul_add, mul_assoc]

section
variable {s a c t : State}

theorem Marks.contributions (marks : Marks s a c t) : contributions s t = a.peerErrors := by
  have generation : a.floor.generation = s.floor.generation := (congrArg Floor.generation marks.quiet.floor :)
  have snapshot : a.led.steer.snapshot = a.steer.snapshot := (congrArg Steer.snapshot (led_spec a).2.1 :)
  unfold Machine.contributions State.peerErrors peerTerms
  rw [snapshot, generation, marks.announced, marks.snapshot, toList_eq_map, List.filterMap_map]
  exact congrArg (fun f => List.filterMap f allPeers) (funext fun p => contribution_eq _ _ _)

theorem Marks.anchorError (marks : Marks s a c t) : anchorTermAt s t = a.anchorError := by
  have role : a.led.steer.role = t.steer.role := (congrArg Steer.role (led_spec a).2.1 :).trans marks.role.symm
  have offset : a.led.steer.offset = a.ledSteer.offset := (congrArg Steer.offset (led_spec a).2.1 :)
  unfold anchorTermAt State.anchorError anchorTerm
  rw [role, offset, marks.ledOffset, marks.phase]
  by_cases anchored : t.steer.role = some .anchored
  · rw [anchored, if_pos rfl]
    cases s.selected.bind fun l => (s.line l).mon.handedPhase with
    | none =>
      generalize (if s.steer.role ≠ some .anchored ∨ s.steer.anchor ≠ s.selected then none else s.steer.offset.or none) = o
      cases o <;> rfl
    | some p =>
      dsimp only
      by_cases stays : s.steer.role = some .anchored ∧ s.steer.anchor = s.selected
      · rw [if_pos stays, if_neg (by simp [stays])]
        cases s.steer.offset <;> rfl
      · rw [if_neg stays, if_pos (by simpa [imp_iff_not_or] using stays)]
  · cases role : t.steer.role with
    | none => rfl
    | some r =>
      cases r
      case anchored => exact absurd role anchored
      all_goals rfl

theorem Marks.meanError (marks : Marks s a c t) : peerMeanAt s t = a.meanError := by
  unfold peerMeanAt State.meanError peerMean
  rw [combine_none, marks.contributions, marks.announced, marks.setup]

theorem Marks.combined (marks : Marks s a c t) : combinedError s t = a.combined := by
  have mean := marks.meanError
  unfold State.meanError peerMean at mean
  unfold combinedError State.combined
  rw [marks.anchorError]
  cases a.anchorError with
  | none =>
    dsimp only
    rw [mean, combine_none, combine_none]
  | some x =>
    dsimp only
    rw [combine_some, marks.contributions, marks.announced, marks.setup]

/-- The floor clock after the mark. -/
theorem Marks.floor (marks : Marks s a c t) : t.floor = { a.computedFloor (s.floor.state == .start) with
    residue := t.floor.residue, kind := t.floor.kind, listenEnded := t.floor.listenEnded, epochFirst := true } := by
  have floor := marks.closes.floor
  have computed := marks.computed.floor
  generalize t.floor = f at *
  rw [floor, computed]

/-- The jump is made at the mark that ends the listen period, where the combined error passes the threshold (R70). -/
theorem Marks.jumps_iff (marks : Marks s a c t) : a.jumping (s.floor.state == .start) = true
    ↔ s.floor.state = .start ∧ ∃ e, combinedError s t = some e ∧ s.setup.jumpThreshold < e.natAbs := by
  unfold State.jumping jumps
  rw [← marks.combined, marks.setup, Bool.and_eq_true, beq_iff_eq]
  refine and_congr_right fun _ => ?_
  cases combinedError s t with
  | none => simp
  | some e => simp

theorem Marks.shift (marks : Marks s a c t) : t.floor.shift = if a.jumping (s.floor.state == .start) then some (a.combined.getD 0)
    else s.floor.shift := by
  have same : a.floor.shift = s.floor.shift := (congrArg Floor.shift marks.quiet.floor :)
  rw [← same, (congrArg Floor.shift marks.floor :)]
  exact (congrArg Floor.shift (computedFloor_frame _ _) :)

/-- What a line's receiver and store hold after the mark. -/
theorem Marks.told (marks : Marks s a c t) (l : LineNo) :
    (t.line l).lrx = (if a.jumping (s.floor.state == .start) = true ∧ s.enabled l = true then
        (s.line l).jumpTold (decide (.receiverEpochClose l ∈ s.due)) else s.line l).lrx
      ∧ (t.line l).store = (if a.jumping (s.floor.state == .start) = true ∧ s.enabled l = true then
        (s.line l).jumpTold (decide (.receiverEpochClose l ∈ s.due)) else s.line l).store := by
  have line : t.line l = c.line l := (congrArg (fun u : State => u.line l) marks.closes.rest :)
  have enabled : a.enabled l = s.enabled l := (congrArg (fun u : State => u.enabled l) marks.quiet.frame :)
  have due : Instr.receiverEpochClose l ∈ a.due ↔ .receiverEpochClose l ∈ s.due := by
    rw [marks.handed.due]
    exact List.mem_erase_of_ne (by simp)
  rw [line]
  cases on : s.enabled l with
  | false =>
    rw [marks.computed.disabled l (enabled.trans on), marks.line]
    simp
  | true =>
    rw [(marks.computed.enabled l (enabled.trans on)).frame]
    unfold State.told
    rw [marks.line]
    simp [due]

/-- Cut and unshifted generation after the mark. -/
theorem Marks.cut (marks : Marks s a c t) : t.floor.cut = (s.floor.cut || a.jumping (s.floor.state == .start))
    ∧ t.floor.unshifted = if a.jumping (s.floor.state == .start) then s.floor.generation else s.floor.unshifted := by
  have floor := marks.quiet.floor
  have frame := computedFloor_frame (s.floor.state == .start) a
  rw [floor] at frame
  exact ⟨(congrArg Floor.cut marks.floor :).trans (congrArg Floor.cut frame :),
    (congrArg Floor.unshifted marks.floor :).trans (congrArg Floor.unshifted frame :)⟩

theorem Marks.disabled (marks : Marks s a c t) {l : LineNo} (off : s.enabled l = false) : t.line l = s.line l := by
  have enabled : a.enabled l = s.enabled l := (congrArg (fun u : State => u.enabled l) marks.quiet.frame :)
  have line : t.line l = c.line l := (congrArg (fun u : State => u.line l) marks.closes.rest :)
  rw [line, marks.computed.disabled l (enabled.trans off), marks.line]

/-- The crosscheck record after the mark (R97). -/
theorem Marks.recordAnchor (marks : Marks s a c t) : t.steer.recordAnchor = match anchorTermAt s t, t.steer.anchor with
    | some e, some l => if t.steer.offset.isSome then some (l, e) else none
    | _, _ => none := by
  have record : t.steer.recordAnchor = c.steer.recordAnchor := (congrArg Steer.recordAnchor marks.closes.steer :)
  have anchor : t.steer.anchor = a.ledSteer.anchor := (congrArg Steer.anchor marks.steer :)
  have offset : t.steer.offset = if a.jumping (s.floor.state == .start) then none else a.ledSteer.offset :=
    (congrArg Steer.offset marks.steer :)
  rw [record, anchor, offset, marks.anchorError, marks.computed.steer]
  rfl

/-! ### The lock tests (R70 to R73) -/

/-- The lock tests read the error, the state, the lock counter and the unlock run. -/
theorem lockStep_congr (u : Setup) (jump : Bool) (e : Option Int) {f g : Floor} (state : g.state = f.state) (lock : g.lock = f.lock)
    (unlock : g.unlock = f.unlock) : (lockStep u jump e g).state = (lockStep u jump e f).state
      ∧ (lockStep u jump e g).lock = (lockStep u jump e f).lock ∧ (lockStep u jump e g).unlock = (lockStep u jump e f).unlock := by
  unfold lockStep
  rw [state, lock, unlock]
  split
  · split
    · split <;> exact ⟨rfl, rfl, rfl⟩
    · exact ⟨rfl, rfl, rfl⟩
  · split
    · split <;> exact ⟨rfl, rfl, rfl⟩
    · exact ⟨rfl, rfl, rfl⟩

/-- State, lock counter and unlock run after the mark. -/
theorem Marks.locks (marks : Marks s a c t) :
    t.floor.state = (lockStep s.setup (a.jumping (s.floor.state == .start)) (combinedError s t) s.floor).state
      ∧ t.floor.lock = (lockStep s.setup (a.jumping (s.floor.state == .start)) (combinedError s t) s.floor).lock
      ∧ t.floor.unlock = (lockStep s.setup (a.jumping (s.floor.state == .start)) (combinedError s t) s.floor).unlock := by
  have same := lockStep_congr a.setup (a.jumping (s.floor.state == .start)) a.combined (f := s.floor)
    (g := { a.floor with integral := holdingIntegral a.lead.1 a.steer a.floor.integral })
    (congrArg Floor.state marks.quiet.floor :) (congrArg Floor.lock marks.quiet.floor :) (congrArg Floor.unlock marks.quiet.floor :)
  rw [marks.setup, ← marks.combined] at same
  obtain ⟨state, lock, unlock⟩ := same
  have frame := computedFloor_frame (s.floor.state == .start) a
  unfold State.lockFloor at frame
  rw [marks.setup, ← marks.combined] at frame
  exact ⟨((congrArg Floor.state marks.floor :).trans (congrArg Floor.state frame :)).trans state,
    ((congrArg Floor.lock marks.floor :).trans (congrArg Floor.lock frame :)).trans lock,
    ((congrArg Floor.unlock marks.floor :).trans (congrArg Floor.unlock frame :)).trans unlock⟩

theorem lockStep_of_locked {u : Setup} {jump : Bool} {e : Option Int} {f : Floor} (out : f.state ≠ .track) (lock : locked u jump e = true) :
    lockStep u jump e f = if f.lock = 3 then { f with state := .track, lock := 0, unlock := 0 }
      else { f with state := .acquire, lock := f.lock + 1 } := by
  unfold lockStep
  rw [if_neg out, if_pos lock]
  exact if_congr (by omega) rfl rfl

end

/-! ### The jump (R70, R71) -/

/-- Settles O34: the jump by `Marks.jumps_iff`, what the lines are told by `Marks.told`, the shift by `tickFloor_cases`. -/
theorem jumpShiftsFloorOnce : Obligations.JumpShiftsFloorOnce := by
  intro s
  refine ⟨fun runs lost still => ?_, fun e idling shift => ?_⟩
  · by_cases late : s.floor.state = .start → 3 ≤ s.floor.listen
    · obtain ⟨a, c, t, run, marks⟩ := exec_epochMark_marks runs lost late
      have shift := marks.shift
      have generation := marks.generation
      have jumps := marks.jumps_iff
      have told := marks.told
      obtain ⟨cut, unshifted⟩ := marks.cut
      obtain ⟨state, lock, -⟩ := marks.locks
      have offset : t.steer.offset = if a.jumping (s.floor.state == .start) then none else a.ledSteer.offset :=
        (congrArg Steer.offset marks.steer :)
      rw [still] at shift
      refine ⟨t, run, fun e error start _ beyond => ?_, fun none => ?_, fun e made => ?_, fun none => ?_, marks.only⟩
      · rw [shift, if_pos (jumps.mpr ⟨start, e, error, beyond⟩), ← marks.combined, error]
        rfl
      · rw [shift, if_neg]
        rw [jumps]
        rintro ⟨start, e, error, beyond⟩
        obtain absent | other | early | within := none
        · exact absurd (absent.symm.trans error) (by simp)
        · exact other start
        · exact absurd (late start) (by omega)
        · exact absurd (within e error) (by omega)
      · have jump : a.jumping (s.floor.state == .start) = true := by
          by_contra h
          rw [shift, if_neg h] at made
          exact absurd made (by simp)
        have start := (jumps.mp jump).1
        rw [jump] at cut unshifted generation offset told state lock
        refine ⟨fun small => ?_, by rw [cut, Bool.or_true], offset, ?_, unshifted, generation, fun l on => ?_,
          fun l off => marks.disabled off⟩
        · have step := lockStep_of_locked (u := s.setup) (jump := true) (e := combinedError s t) (f := s.floor)
            (by rw [start]; decide) rfl
          rw [if_neg (by omega)] at step
          rw [step] at state lock
          exact ⟨state, lock⟩
        · rw [marks.recordAnchor, offset]
          cases anchorTermAt s t <;> cases t.steer.anchor <;> rfl
        · obtain ⟨lrx, store⟩ := told l
          rw [if_pos ⟨rfl, on⟩] at lrx store
          rw [lrx, store]
          simp [Line.jumpTold]
      · have jump : a.jumping (s.floor.state == .start) = false := by
          rw [← Bool.not_eq_true]
          intro h
          rw [shift, if_pos h] at none
          exact absurd none (by simp)
        rw [jump] at cut unshifted generation told
        rw [Bool.or_false] at cut
        simp only [Bool.false_eq_true, false_and, if_false] at told
        exact ⟨generation, cut, unshifted, told⟩
    · obtain ⟨start, early⟩ := Classical.not_imp.mp late
      have run := exec_epochMark_listening start (Nat.lt_of_not_le early)
      have quiet := handed_of_none (s := s) (.inl lost)
      have closes := listened_closes s.handed
      have floor := closes.floor
      have lines : ∀ l, s.handed.listened.line l = s.line l := fun l =>
        (congrArg (fun u : State => u.line l) closes.rest :).trans (congrArg (fun u : State => u.line l) quiet.frame :)
      have only := OnlyEpochMark.of_parts (handed_spec s) (.refl _) (by rw [floor]) closes.rest
      rw [quiet.floor] at floor
      generalize s.handed.listened = t at *
      have shift : t.floor.shift = none := (congrArg Floor.shift floor :).trans still
      exact ⟨t, run, fun e _ _ third => absurd third early, fun _ => shift, fun e made => absurd (shift.symm.trans made) (by simp),
        fun _ => ⟨(congrArg Floor.generation floor :), (congrArg Floor.cut floor :), (congrArg Floor.unshifted floor :),
          fun l => by rw [lines l]; exact ⟨rfl, rfl⟩⟩, only⟩
  · obtain ⟨t, run, floor, due⟩ := idling.step_floor
    obtain ⟨e', shift', ticked⟩ | ⟨none, -⟩ | ⟨none, -⟩ | ⟨none, -⟩ := tickFloor_cases s
    · obtain rfl := Option.some.inj (shift.symm.trans shift')
      rw [ticked] at floor due
      refine ⟨t, run, floor, fun h => ?_⟩
      have member : Instr.floorFrameBoundary ∈ s.due := due.mp h
      rw [idling.2.1] at member
      exact absurd member List.not_mem_nil
    all_goals exact absurd (shift.symm.trans none) (by simp)

/-! ### The history (R74, R76) -/

theorem traceable_iff (f : Floor) (t : Steer) : traceable f t = true ↔
    f.state = .track ∧ (t.role = some .anchored ∨ t.role = some .following) ∧ ∃ g, t.leading = some g ∧ 1 ≤ g ∧ g ≤ 3 := by
  unfold traceable
  cases t.leading with
  | none => simp
  | some g => simp [and_assoc]

theorem pushRing_eq (ring : List Int) (x : Int) : pushRing ring x = (if ring.length < 16 then ring else ring.tail) ++ [x] := by
  unfold pushRing
  split
  · rfl
  · rw [List.drop_one]

/-- Settles O37, by the cases of `historyStep`. -/
theorem traceableEpochsMakeHistory : Obligations.TraceableEpochsMakeHistory := by
  intro s runs computes lost
  obtain ⟨a, c, t, run, marks⟩ := exec_epochMark_marks runs lost computes.late
  have history := marks.history
  have state : t.floor.state = c.floor.state := (congrArg Floor.state marks.closes.floor :)
  have freq : t.floor.freq = c.floor.freq := (congrArg Floor.freq marks.closes.floor :)
  have role : t.steer.role = c.steer.role := (congrArg Steer.role marks.closes.steer :)
  have leading : c.steer.leading = some t.steer.announced :=
    (congrArg Steer.leading marks.closes.steer :).symm.trans (marks.leading.trans (congrArg some marks.announced.symm))
  have kept : c.steer.ring = s.steer.ring ∧ c.steer.runCount = s.steer.runCount ∧ c.steer.historyValid = s.steer.historyValid
      ∧ c.steer.holdAge = s.steer.holdAge := by
    have before := marks.quiet.steer
    have led : a.ledSteer.ring = a.steer.ring ∧ a.ledSteer.runCount = a.steer.runCount
      ∧ a.ledSteer.historyValid = a.steer.historyValid ∧ a.ledSteer.holdAge = a.steer.holdAge := ⟨rfl, rfl, rfl, rfl⟩
    rw [before] at led
    rw [marks.computed.steer]
    exact led
  obtain ⟨ring, count, valid, age⟩ := kept
  have trace := traceable_iff c.floor c.steer
  rw [← state, ← role, leading] at trace
  simp only [Option.some.injEq, exists_eq_left'] at trace
  unfold historyStep at history
  rw [ring, count, valid, age, ← freq] at history
  refine ⟨t, run, fun traced => ?_, fun untraced => ?_, marks.only⟩
  · rw [if_pos (trace.mpr traced), pushRing_eq] at history
    refine ⟨(congrArg Steer.ring history :), (congrArg Steer.runCount history :), (congrArg Steer.historyValid history :).trans ?_,
      (congrArg Steer.holdAge history :)⟩
    simp
  · rw [if_neg (fun h => untraced (trace.mp h))] at history
    exact ⟨(congrArg Steer.ring history :), (congrArg Steer.runCount history :),
      (congrArg Steer.historyValid history :), (congrArg Steer.holdAge history :)⟩

/-! ### The loop filter (R90, R93 to R96) -/

section
variable {s a c t : State}

/-- The own hold as the filter reads it. -/
theorem Marks.heldAt (marks : Marks s a c t) : a.heldAt = holdAtFilter s t := by
  obtain ⟨-, -, -, -, own, -⟩ := marks.steer_before
  unfold State.heldAt holdAtFilter
  rw [own, marks.setup]
  exact if_congr marks.calls rfl rfl

theorem Marks.holdover (marks : Marks s a c t) : t.steer.holdover = if t.steer.role ≠ some .holding then none
    else if s.steer.role = some .holding then s.steer.holdover else some (s.steer.ring.sum.tdiv 16) := by
  obtain ⟨role, -, -, -, -, -, ring, holdover⟩ := marks.steer_before
  have step := (congrArg Steer.holdover (holdoverStep_eq a.lead.1 a.steer) :)
  dsimp only at step
  rw [role, ring, holdover] at step
  rw [(congrArg Steer.holdover marks.steer :), marks.role]
  refine Eq.trans step ?_
  simp [ringMean]

theorem Marks.peerHold (marks : Marks s a c t) : t.steer.peerHold = a.steer.peerHold := (congrArg Steer.peerHold marks.steer :)

/-- I after the mark, from what it is at the filter and the error that reaches it (R90, R94, R95). -/
theorem Marks.integral (marks : Marks s a c t) {i : Int} {x : Option Int}
    (at_ : i = if t.steer.role = some .holding ∧ s.steer.role ≠ some .holding then 64 * s.steer.ring.sum.tdiv 16 else s.floor.integral)
    (error : x = if a.jumping (s.floor.state == .start) then none else combinedError s t) :
    t.floor.integral = match (generalizing := false) x with
      | none => i
      | some y => if t.steer.role = some .holding ∨ 0 < holdAtFilter s t ∨ t.steer.peerHold = true then i
        else clamp (64 * s.setup.pullLimit) (i - 2 ^ s.setup.ki * y) := by
  have before : (a.lockFloor (s.floor.state == .start)).integral = i := by
    obtain ⟨role, -, -, -, -, -, ring, -⟩ := marks.steer_before
    have same : a.floor.integral = s.floor.integral := (congrArg Floor.integral marks.quiet.floor :)
    rw [(congrArg Floor.integral (lockFloor_frame (s.floor.state == .start) a) :), at_, marks.role]
    unfold holdingIntegral ringMean
    rw [role, ring, same]
    simp
  have frozen : a.ledSteer.role = some .holding ∨ frozen a.ledSteer = true
      ↔ t.steer.role = some .holding ∨ 0 < holdAtFilter s t ∨ t.steer.peerHold = true := by
    rw [marks.role, ← marks.heldAt, marks.peerHold]
    unfold Machine.frozen
    rw [Bool.or_eq_true, decide_eq_true_eq]
    rfl
  have filtered : t.floor.integral = nextIntegral a.setup a.ledSteer (if a.jumping (s.floor.state == .start) then none else a.combined)
      (a.lockFloor (s.floor.state == .start)).integral := (congrArg Floor.integral marks.floor :)
  rw [filtered, ← marks.combined, ← error, before, marks.setup]
  cases x with
  | none => rfl
  | some y => exact if_congr frozen rfl rfl

/-- F after the mark (R90, R93, R96). -/
theorem Marks.freq (marks : Marks s a c t) {x : Option Int}
    (error : x = if a.jumping (s.floor.state == .start) then none else combinedError s t) :
    t.floor.freq = clampFreq s.setup t.floor.state
      ((if t.steer.role = some .holding then t.steer.holdover.getD 0 else t.floor.integral / 64) - 2 ^ s.setup.kp * x.getD 0) := by
  have state : (a.lockFloor (s.floor.state == .start)).state = t.floor.state := (congrArg Floor.state marks.floor :).symm
  have filtered : t.floor.freq = clampFreq a.setup (a.lockFloor (s.floor.state == .start)).state
      (nextFreq a.setup a.ledSteer (if a.jumping (s.floor.state == .start) then none else a.combined) t.floor.integral) := by
    have integral := (congrArg Floor.integral marks.floor :)
    rw [integral]
    exact (congrArg Floor.freq marks.floor :)
  rw [filtered, ← marks.combined, ← error, marks.setup, state]
  unfold nextFreq
  rw [(congrArg Steer.role marks.steer : _ = _), (congrArg Steer.holdover marks.steer : _ = _)]

end

/-! ### The whole filter, and a station anchored alone -/

theorem roundDiv_mul {b : Nat} (pos : 0 < b) (e : Int) : roundDiv (b * e) b = e := by
  obtain ⟨high, low, -⟩ := roundDiv_spec (b * e) b pos
  generalize roundDiv (b * e) b = r at *
  rw [← mul_sub] at high low
  have pos : (0 : Int) < b := by omega
  by_contra other
  obtain less | more : e - r ≤ -1 ∨ 1 ≤ e - r := by omega
  · nlinarith
  · nlinarith

section
variable {s a c t : State}

/-- With a lone anchor the combined error is the anchor's (R92). -/
theorem combinedError_alone {e : Int} (alone : contributions s t = []) (anchor : anchorTermAt s t = some e)
    (weight : 0 < s.setup.weight t.steer.announced) (gain : 0 < s.setup.anchorGain) : combinedError s t = some e := by
  have product : 0 < s.setup.weight t.steer.announced * s.setup.anchorGain := Nat.mul_pos weight gain
  unfold combinedError
  rw [anchor, alone]
  dsimp only
  rw [if_neg (by simp; omega)]
  refine congrArg some ?_
  simp only [List.sum_nil, List.length_nil, zero_add]
  rw [← mul_assoc, ← Nat.cast_mul]
  exact roundDiv_mul product e

/-- With every entry ABSENT no peer is a source and none contributes. -/
theorem Marks.nobody (marks : Marks s a c t) (absent : ∀ q, (s.peer q).state = .absent ∧ (s.peer q).hold = 0) :
    (∀ p g, ¬ IsSource t p g) ∧ Machine.contributions s t = [] ∧ t.steer.peerHold = false := by
  have empty : ∀ q, t.steer.snapshot.get q = {} := fun q => by
    rw [marks.snapshot, marks.handed.snapshot, agePeer_absent (absent q).1]
    exact if_pos (absent q).1
  refine ⟨fun p g source => ?_, ?_, ?_⟩
  · have := source.1
    rw [empty] at this
    exact absurd this (by decide)
  · unfold Machine.contributions
    rw [List.filterMap_eq_nil_iff]
    intro q _
    rw [empty]
    rfl
  · rw [marks.peerHold, ← Bool.not_eq_true, marks.handed.peerHold]
    rintro ⟨q, held⟩
    rw [agePeer_absent (absent q).1, (absent q).2] at held
    exact absurd held (by decide)

end

theorem lockStep_of_track {u : Setup} {jump : Bool} {e : Option Int} {f : Floor} (track : f.state = .track) :
    lockStep u jump e f = if unlocked u e then
        if f.unlock = 1 then { f with state := .acquire, lock := 0, unlock := 0 } else { f with unlock := f.unlock + 1 }
      else { f with unlock := 0 } := by
  unfold lockStep
  rw [if_pos track]
  exact if_congr Iff.rfl (if_congr (by omega) rfl rfl) rfl

theorem lockStep_of_open {u : Setup} {jump : Bool} {e : Option Int} {f : Floor} (out : f.state ≠ .track)
    (beyond : locked u jump e = false) : lockStep u jump e f = { f with state := .acquire, lock := 0 } := by
  unfold lockStep
  rw [if_neg out, if_neg (by rw [beyond]; decide)]

/-- Settles O36: the lone anchor's error by `combinedError_alone`, the lock tests by `Marks.locks`, the filter by `Marks.integral` and
`Marks.freq`. -/
theorem anchoredAloneFollowsLine : Obligations.AnchoredAloneFollowsLine := by
  intro l o p e s
  refine ⟨fun track lost selected role anchor offset phase own absent weight gain error => ?_,
    fun runs computes lost still small unlock => ?_⟩
  · obtain ⟨a, c, t, run, marks⟩ := exec_epochMark_marks (by simp [State.running, track]) lost fun start =>
      absurd (track.symm.trans start) (by decide)
    obtain ⟨nobody, alone, quiet⟩ := marks.nobody absent
    have lead : a.lead = (.anchored, (s.line l).lrx.grade) := by
      have peers : bestPeer t.steer.snapshot = none := Option.eq_none_iff_forall_ne_some.mpr fun b best =>
        have ⟨q, source⟩ := (bestPeer_spec (t := t) rfl).2 b best
        nobody q b source
      rw [marks.lead, selected, peers]
      rfl
    have now : t.steer.role = some .anchored := by rw [marks.role, lead]
    have stays : ¬ (s.steer.role ≠ some .anchored ∨ s.steer.anchor ≠ s.selected) := by simp [role, anchor, selected]
    have same : s.selected.bind (fun l => (s.line l).mon.handedPhase) = some p := by rw [selected]; exact phase
    have term : anchorTermAt s t = some e := by
      unfold anchorTermAt
      rw [now, same, error, offset]
      simp [role, anchor, selected]
    have combined : combinedError s t = some e :=
      combinedError_alone alone term (by rw [marks.announced, lead]; exact weight) gain
    have jump : a.jumping (s.floor.state == .start) = false := by
      rw [← Bool.not_eq_true, marks.jumps_iff]
      exact fun h => absurd (track.symm.trans h.1) (by decide)
    have called : callsHold a.steer a.lead.1 a.selected = false := by
      rw [← Bool.not_eq_true, marks.calls]
      simp [now, role, anchor, selected]
    have held : holdAtFilter s t = 0 := by
      unfold holdAtFilter
      rw [if_neg (by simp [now, role, anchor, selected]), own]
    have reaches : some e = if a.jumping (s.floor.state == .start) then none else combinedError s t := by
      rw [jump, combined]
      rfl
    have integral := marks.integral rfl reaches
    have freq := marks.freq reaches
    have lock := marks.locks
    have bus := marks.bus
    have record : t.steer.recordAnchor = some (l, e) := by
      have at_ : t.steer.anchor = some l := by
        have led := marks.ledAnchor
        rw [if_pos now, selected] at led
        exact (congrArg Steer.anchor marks.steer :).trans led
      have kept : t.steer.offset = some o := by
        have led := marks.ledOffset
        rw [if_pos now, if_neg stays, offset] at led
        have := (congrArg Steer.offset marks.steer :)
        rw [jump] at this
        exact this.trans led
      rw [marks.recordAnchor, term, at_, kept]
      rfl
    rw [jump, combined, lockStep_of_track track] at lock
    rw [called] at bus
    have beyond : unlocked s.setup (some e) = decide (4 * s.setup.lockWindow < e.natAbs) := rfl
    rw [beyond] at lock
    refine ⟨t, run, ?_, fun inside => ?_, fun out first => ?_, fun out second => ?_, ?_, now, record, bus.1, marks.only⟩
    · dsimp only at integral
      rw [if_neg (by simp [now, held, quiet])] at integral
      simpa [clamp, now] using integral
    · rw [if_neg (by simp; omega)] at lock
      exact ⟨lock.1.trans track, lock.2.2⟩
    · rw [if_pos (by simpa using out), if_neg (by omega), first] at lock
      exact ⟨lock.1.trans track, lock.2.2⟩
    · rw [if_pos (by simpa using out), if_pos second] at lock
      exact ⟨lock.1, lock.2.2⟩
    · rw [if_neg (by simp [now])] at freq
      simpa [clampFreq, clamp] using freq
  · obtain ⟨a, c, t, run, marks⟩ := exec_epochMark_marks runs lost computes.late
    have lock := marks.locks
    have shift := marks.shift
    have jump : t.floor.shift.isSome = a.jumping (s.floor.state == .start) := by
      rw [shift, still]
      cases a.jumping (s.floor.state == .start) <;> rfl
    rw [← jump] at lock
    refine ⟨t, run, fun track => ?_, fun out => ?_, marks.holdover, fun i x at_ error => ⟨?_, fun f raw => ?_⟩, marks.only⟩
    · rw [lockStep_of_track track] at lock
      refine ⟨fun x combined beyond => ?_, fun within => ?_⟩
      · have unlocked : unlocked s.setup (combinedError s t) = true := by rw [combined]; exact decide_eq_true beyond
        rw [if_pos unlocked] at lock
        by_cases second : s.floor.unlock = 1
        · rw [if_pos second] at lock ⊢
          exact ⟨lock.1, lock.2.2, lock.2.1⟩
        · rw [if_neg second] at lock ⊢
          exact ⟨lock.1.trans track, by rw [lock.2.2]; dsimp only; omega, lock.2.1⟩
      · have still : ¬ unlocked s.setup (combinedError s t) = true := by
          unfold unlocked
          split
          · next x combined => simpa using within x combined
          · decide
        rw [if_neg still] at lock
        exact ⟨lock.1.trans track, lock.2.2, lock.2.1⟩
    · refine ⟨fun locks => ?_, fun x none combined beyond => ?_⟩
      · have locked : locked s.setup t.floor.shift.isSome (combinedError s t) = true := by
          unfold locked
          obtain jumped | within := locks
          · rw [jumped]
            rfl
          · rw [Bool.or_eq_true]
            refine .inr ?_
            split
            · next x combined => exact decide_eq_true (within x combined)
            · rfl
        rw [lockStep_of_locked out locked] at lock
        by_cases fourth : s.floor.lock = 3
        · rw [if_pos fourth] at lock ⊢
          exact lock
        · rw [if_neg fourth] at lock ⊢
          exact lock
      · have open_ : locked s.setup t.floor.shift.isSome (combinedError s t) = false := by
          rw [none, combined]
          exact decide_eq_false (by omega)
        rw [lockStep_of_open out open_] at lock
        exact lock
    · exact marks.integral at_ (by rw [error, jump])
    · have freq := marks.freq (x := x) (by rw [error, jump])
      rw [freq, raw]
      rfl

end Sys2Proof.Machine
end

section
/-! CROSSCHECK: its assertion by the verdicts of the computations and its release by the monitors (03, section 3.3; 05, section 5.6). -/

namespace Sys2Proof.Machine

theorem overVerdict_no_term (t : Steer) (mean : Option Int) : overVerdict t none mean = none := by
  unfold overVerdict
  split <;> simp_all

theorem overVerdict_of_anchored {u : Steer} (anchored : u.role = some .anchored) (x : Int) (mean : Option Int) (k : LineNo) :
    overVerdict u (some x) mean = some k ↔ ∃ y m n, u.recordAnchor = some (k, y) ∧ mean = some m ∧ u.recordMean = some n ∧ u.anchor = some k
      ∧ 32 < ((x - y) - (m - n)).natAbs := by
  unfold overVerdict
  rw [anchored]
  cases u.recordAnchor with
  | none => simp
  | some record =>
    obtain ⟨l, y⟩ := record
    cases mean with
    | none => simp
    | some m =>
      cases u.recordMean with
      | none => simp
      | some n =>
        dsimp only
        by_cases judged : u.anchor = some l ∧ Config.crosscheckLimit < ((x - y) - (m - n)).natAbs
        · rw [if_pos judged]
          have beyond : 32 < ((x - y) - (m - n)).natAbs := judged.2
          constructor
          · intro same
            obtain rfl := Option.some.inj same
            exact ⟨y, m, n, rfl, rfl, rfl, judged.1, beyond⟩
          · rintro ⟨y', m', n', record, -⟩
            rw [(Prod.mk.inj (Option.some.inj record)).1]
        · rw [if_neg judged]
          refine iff_of_false (by simp) ?_
          rintro ⟨y', m', n', record, mean, recordMean, anchor, beyond⟩
          obtain ⟨rfl, rfl⟩ := Prod.mk.inj (Option.some.inj record)
          obtain rfl := Option.some.inj mean
          obtain rfl := Option.some.inj recordMean
          exact judged ⟨anchor, beyond⟩

theorem anchorTermAt_some {s t : State} {x : Int} (term : anchorTermAt s t = some x) :
    t.steer.role = some .anchored ∧ s.selected.bind (fun l => (s.line l).mon.handedPhase) ≠ none := by
  unfold anchorTermAt at term
  split at term
  · next role phase => exact ⟨role, by rw [phase]; simp⟩
  · exact absurd term (by simp)

section
variable {s a c t : State}

/-- The crosscheck record as the verdict finds it: that before the mark where the line stays the anchor on the same offset (R97). -/
theorem Marks.ledRecord (marks : Marks s a c t) {x : Int} (term : anchorTermAt s t = some x) : a.ledSteer.recordAnchor
    = if s.steer.role = some .anchored ∧ s.steer.anchor = s.selected ∧ s.steer.offset.isSome = true then s.steer.recordAnchor else none := by
  obtain ⟨now, phase⟩ := anchorTermAt_some term
  obtain ⟨-, -, offset, record, -⟩ := marks.steer_before
  have lead : a.lead.1 = .anchored := Option.some.inj (marks.role.symm.trans now)
  have led := (congrArg Steer.recordAnchor (anchorStep_eq a.lead.1 a.selected a.selectedPhase a.steer) :)
  refine Eq.trans led ?_
  rw [marks.phase, offset, record]
  have fresh : (callsHold a.steer a.lead.1 a.selected = true ∨ (a.lead.1 = .anchored ∧ s.steer.offset = none
        ∧ s.selected.bind (fun l => (s.line l).mon.handedPhase) ≠ none))
      ↔ ¬ (s.steer.role = some .anchored ∧ s.steer.anchor = s.selected ∧ s.steer.offset.isSome = true) := by
    rw [marks.calls]
    simp only [now, lead, phase, true_and, ne_eq, not_true_eq_false, false_and, or_false, not_false_eq_true, and_true]
    cases s.steer.offset <;> simp [imp_iff_not_or]
  exact (if_congr fresh rfl rfl).trans (ite_not ..)

/-- With an anchor term the selected line is the anchor, and there is an offset. -/
theorem Marks.anchor_of_term (marks : Marks s a c t) {x : Int} (term : anchorTermAt s t = some x) : t.steer.anchor = s.selected := by
  have led := marks.ledAnchor
  rw [if_pos (anchorTermAt_some term).1] at led
  exact (congrArg Steer.anchor marks.steer :).trans led

theorem Marks.offset_of_term (marks : Marks s a c t) {x : Int} (term : anchorTermAt s t = some x) :
    (if false = true then none else a.ledSteer.offset).isSome = true := by
  obtain ⟨now, phase⟩ := anchorTermAt_some term
  rw [if_neg Bool.false_ne_true, marks.ledOffset, if_pos now]
  obtain ⟨p, phase⟩ := Option.ne_none_iff_exists'.mp phase
  rw [phase]
  split
  · rfl
  · cases s.steer.offset <;> rfl

/-- The verdict of the computation is OVER for a line as the rule says (R98). -/
theorem Marks.over_iff (marks : Marks s a c t) (k : LineNo) :
    overVerdict a.ledSteer a.anchorError a.meanError = some k ↔ JudgedOver s t k := by
  unfold JudgedOver crosscheckMeasure
  rw [← marks.anchorError, ← marks.meanError]
  cases term : anchorTermAt s t with
  | none =>
    rw [overVerdict_no_term]
    simp
  | some x =>
    obtain ⟨now, -⟩ := anchorTermAt_some term
    obtain ⟨-, -, -, -, -, recordMean, -⟩ := marks.steer_before
    have role : a.ledSteer.role = some .anchored := (congrArg Steer.role marks.steer :).symm.trans now
    have anchor := marks.ledAnchor
    rw [if_pos now] at anchor
    have mean : a.ledSteer.recordMean = s.steer.recordMean := recordMean
    rw [overVerdict_of_anchored role, marks.ledRecord term, anchor, mean]
    by_cases stays : s.steer.role = some .anchored ∧ s.steer.anchor = s.selected ∧ s.steer.offset.isSome = true
    · rw [if_pos stays]
      obtain ⟨was, same, offset⟩ := stays
      constructor
      · rintro ⟨y, m, n, record, handed, before, chosen, beyond⟩
        refine ⟨was, same.trans chosen, chosen, offset, ?_⟩
        rw [record, handed, before]
        simpa using beyond
      · rintro ⟨-, -, chosen, -, judged⟩
        split at judged
        · next x' l y m n same record handed before =>
          obtain rfl := Option.some.inj same
          split at judged
          · next named =>
            subst named
            exact ⟨y, m, n, record, handed, before, chosen, by simpa using judged⟩
          · exact absurd judged (by simp)
        · exact absurd judged (by simp)
    · rw [if_neg stays]
      refine iff_of_false (by simp) ?_
      rintro ⟨was, before, chosen, offset, -⟩
      exact stays ⟨was, before.trans chosen.symm, offset⟩

end

/-- A selected line that is no longer otherwise qualified has lost the selection, with its notice (R59). -/
theorem lost_of_out {s t : State} {l : LineNo} {x y : Line} (keeps : KeepsChoice x (s.chosen l) y (t.chosen l))
    (was : x.mon.otherwise = true) (out : y.mon.otherwise = false) (selected : s.selected = some l)
    (loses : (t.selected = s.selected ∧ t.lostNotice = s.lostNotice) ∨ ∃ k, LosesOnly k s t) :
    t.selected = none ∧ t.lostNotice = some l := by
  have dropped : ¬ t.selected = s.selected := fun same =>
    absurd (((keeps.1 (State.chosen_iff.mpr (same.trans selected))).2 was).symm.trans out) (by decide)
  obtain same | ⟨k, same | ⟨chosen, lost⟩⟩ := loses
  · exact absurd same.1 dropped
  · exact absurd same.1 dropped
  · obtain rfl := Option.some.inj (selected.symm.trans chosen)
    exact lost

/-- Settles O27: the release by `exec_monitorEpochWork`, the taking of a verdict by `takeVerdict_spec`, the verdict by `Marks.over_iff`. -/
theorem crosscheckIsAssertedAndReleased : Obligations.CrosscheckIsAssertedAndReleased := by
  intro l verdict s
  refine ⟨fun runs _ => ?release, fun small => ?verdict, fun runs computes lost still small => ?mark⟩
  case release =>
    obtain ⟨v, run, inside, outside, only, -⟩ := exec_monitorEpochWork runs
    refine ⟨_, run, fun l on live => ?_, fun l quiet => ?_, only⟩
    · have rule := (inside l on).cross.1 live
      refine ⟨fun d handed within => ?_, fun d handed beyond => ?_, fun none => ?_⟩
      · rw [Int.abs_eq_natAbs] at within
        have verdict : crossVerdict (s.line l).mon.handedDrift = some false := by
          rw [handed]
          exact if_pos (by omega)
        rw [verdict] at rule
        exact rule.1 live
      · rw [Int.abs_eq_natAbs] at beyond
        have verdict : crossVerdict (s.line l).mon.handedDrift = none := by
          rw [handed]
          exact if_neg (by omega)
        rw [verdict] at rule
        exact ⟨rule.1.trans live, rule.2⟩
      · rw [none] at rule
        exact ⟨rule.1.trans live, rule.2⟩
    · cases on : s.enabled l with
      | true => exact (inside l on).cross.2 quiet
      | false =>
        have same : v.line l = s.line l := (outside l on).1
        exact (congrArg (fun x : Line => x.mon.crosscheck) same :).trans quiet
  case verdict =>
    obtain ⟨only, -, taken, loses⟩ := takeVerdict_spec verdict s l
    refine ⟨fun named quiet unmasked => ?_, fun clears => ⟨taken.clears clears, ?_⟩, only.1,
      (congrArg (fun u : State => { u with gradeNotice := s.gradeNotice }) only.2 :)⟩
    · obtain ⟨run, live, fourth⟩ := taken.counts named quiet unmasked
      refine ⟨by rw [run, bump_spec _ _ (by omega)]; omega, live, fun three => ?_⟩
      obtain ⟨latched, out⟩ := fourth three
      exact ⟨latched, out, fun was selected => lost_of_out taken.keeps was out selected (loses.imp id fun h => ⟨l, h.2⟩)⟩
    · rw [takeVerdict_clears clears]
      exact onlyLine_onMon s l _
  case mark =>
    obtain ⟨a, c, t, run, marks⟩ := exec_epochMark_marks runs lost computes.late
    have line : ∀ k, t.line k = c.line k := fun k => (congrArg (fun u : State => u.line k) marks.closes.rest :)
    have enabled : ∀ k, a.enabled k = s.enabled k := fun k => (congrArg (fun u : State => u.enabled k) marks.quiet.frame :)
    have setup : ∀ k, a.lineSetup k = s.lineSetup k := fun k => (congrArg (fun u : State => u.lineSetup k) marks.quiet.frame :)
    have told : ∀ k, (a.told (s.floor.state == .start) k).mon = (s.line k).mon := fun k => by
      rw [told_frame, marks.line]
    have taken := fun k on => marks.computed.enabled k ((enabled k).trans on)
    refine ⟨t, run, fun k on judged quiet unmasked => ?_, fun k on clears => ?_, fun k off => ?_, ?_, ?_, marks.only⟩
    · have taken := taken k on
      obtain ⟨run', live, fourth⟩ := taken.counts ((marks.over_iff k).mpr judged) (by rw [told]; exact quiet) (by rw [setup]; exact unmasked)
      rw [told] at run' live fourth
      have := small k
      rw [line]
      refine ⟨by rw [run', bump_spec _ _ (by omega)]; omega, live, fun three was => ?_⟩
      have chosen : a.selected = some k := marks.selected.trans judged.2.2.1
      have dropped := lost_of_out taken.keeps (by rw [told]; exact was) (fourth three).2 chosen
        (marks.computed.loses.imp id fun ⟨k, h⟩ => ⟨k, h.2⟩)
      exact ⟨(congrArg State.selected marks.closes.rest :).trans dropped.1, (congrArg State.lostNotice marks.closes.rest :).trans dropped.2⟩
    · have cleared := (taken k on).clears (clears.imp (mt (marks.over_iff k).mp) (Or.imp (fun h => by rw [told]; exact h)
        fun h => by rw [setup]; exact h))
      rw [line, cleared, told]
    · rw [marks.disabled off]
    · rw [marks.meanError]
      exact (congrArg Steer.recordMean marks.steer :)
    · have shift := marks.shift
      rw [still] at shift
      have offset : t.steer.offset = if a.jumping (s.floor.state == .start) then none else a.ledSteer.offset :=
        (congrArg Steer.offset marks.steer :)
      rw [marks.recordAnchor, offset, shift]
      cases a.jumping (s.floor.state == .start) with
      | true =>
        cases anchorTermAt s t <;> cases t.steer.anchor <;> rfl
      | false =>
        cases term : anchorTermAt s t with
        | none => cases s.selected <;> rfl
        | some x =>
          rw [marks.anchor_of_term term, marks.offset_of_term term]
          cases s.selected <;> rfl

end Sys2Proof.Machine
end

section
/-! EPOCH_MARK reads the peer table through its source peers alone: a FOLLOWING peer never reaches the steering (05, sections 5.3 and 5.4). -/

namespace Sys2Proof.Machine

/-- The part with another peer table and another snapshot of it. -/
def State.withPeers (s : State) (ps : Vector Peer 12) (n : Vector PeerSnap 12) : State :=
  { s with peers := ps, steer := { s.steer with snapshot := n } }

/-- An operation that neither reads nor writes the peers. -/
def BlindToPeers (f : State → State) : Prop := ∀ s ps n, f (s.withPeers ps n) = (f s).withPeers ps n

theorem forLines_blind {f : State → LineNo → State} (blind : ∀ l, BlindToPeers fun s => f s l) (ls : List LineNo) :
    BlindToPeers fun s => s.forLines ls f := by
  intro s ps n
  induction ls generalizing s with
  | nil => rfl
  | cons l ls ih => exact (congrArg (fun t : State => t.forLines ls f) (blind l s ps n)).trans (ih (f s l))

/-- A choice that does not turn on the peers, between two parts that do not touch them. -/
theorem ite_blind {c d : Prop} [Decidable c] [Decidable d] {x y x' y' : State} {ps : Vector Peer 12} {n : Vector PeerSnap 12}
    (same : d ↔ c) (first : x' = x.withPeers ps n) (second : y' = y.withPeers ps n) :
    (if d then x' else y') = (if c then x else y).withPeers ps n := by
  rw [apply_ite fun t : State => t.withPeers ps n]
  exact ite_congr (propext same) (fun _ => first) fun _ => second

theorem rejudge_blind (l : LineNo) : BlindToPeers (rejudge l) := fun _ _ _ => ite_blind Iff.rfl rfl rfl

theorem raise_blind (c : LineCond) (l : LineNo) : BlindToPeers (raise c l) := fun s ps n =>
  ite_blind Iff.rfl rfl (rejudge_blind l (s.setLine l { (s.line l).setLive c true with
    mon := { ((s.line l).setLive c true).mon with latched := ((s.line l).setLive c true).mon.latched.put c true } }) ps n)

theorem takeVerdict_blind (v : Option LineNo) (l : LineNo) : BlindToPeers fun s => takeVerdict v s l := fun s ps n =>
  ite_blind Iff.rfl (ite_blind Iff.rfl (raise_blind .crosscheck l (s.onMon l fun m => { m with crossRun := bump 4 m.crossRun }) ps n) rfl) rfl

theorem jumpNotice_blind (l : LineNo) : BlindToPeers fun s => jumpNotice s l := fun _ _ _ => ite_blind Iff.rfl rfl rfl

theorem pick_blind : BlindToPeers pick := fun _ _ _ => ite_blind Iff.rfl rfl rfl

theorem submitHold_blind (count : Nat) : BlindToPeers (submitHold count) := fun s ps n =>
  ite_blind Iff.rfl rfl (ite_blind Iff.rfl rfl
    (pick_blind (s.onBus fun b => { b with hold := some (holdBulletin s.number count) }) ps n))

theorem setOwnHold_blind : BlindToPeers setOwnHold := fun s ps n =>
  submitHold_blind s.setup.holdEpochs (s.onSteer fun t => { t with ownHold := s.setup.holdEpochs }) ps n

theorem fallback_blind : BlindToPeers fallback := fun s ps n => by
  by_cases valid : s.steer.historyValid = true ∧ s.steer.holdAge ≤ s.setup.holdoverLimit * 256
  · rw [fallback_of_history valid, fallback_of_history (s := s.withPeers ps n) valid]
    exact setOwnHold_blind (s.fallen .holding 4 (some (ringMean s.steer.ring)) (64 * ringMean s.steer.ring)
      (clampFreq s.setup s.floor.state (ringMean s.steer.ring))) ps n
  · rw [fallback_of_none valid, fallback_of_none (s := s.withPeers ps n) valid]
    exact setOwnHold_blind (s.fallen .free 5 none s.floor.integral (clampFreq s.setup s.floor.state (s.floor.integral / 64))) ps n

theorem noticesFirst_blind : BlindToPeers noticesFirst := fun s ps n => by
  have taken : (if s.lostNotice.isSome then if s.steer.role = some .anchored then fallback { s.withPeers ps n with lostNotice := none }
        else { s.withPeers ps n with lostNotice := none } else s.withPeers ps n)
      = (if s.lostNotice.isSome then if s.steer.role = some .anchored then fallback { s with lostNotice := none }
        else { s with lostNotice := none } else s).withPeers ps n :=
    ite_blind Iff.rfl (ite_blind Iff.rfl (fallback_blind { s with lostNotice := none } ps n) rfl) rfl
  exact congrArg (fun t : State => { t with gradeNotice := none }) taken

/-! ### A computation -/

/-- Two peer snapshots with the same sources and the same terms. -/
structure SameSources (n m : Vector PeerSnap 12) : Prop where
  best : bestPeer n = bestPeer m
  terms : ∀ generation lead, peerTerms generation lead n = peerTerms generation lead m

section
variable {s : State} {ps : Vector Peer 12} {n : Vector PeerSnap 12}

theorem lead_withPeers (same : SameSources n s.steer.snapshot) : (s.withPeers ps n).lead = s.lead :=
  congrArg (fun best => decideRole s.selectedGrade best (fallbackGrade s.setup s.steer)) same.best

theorem ledFirst_withPeers (same : SameSources n s.steer.snapshot) : (s.withPeers ps n).ledFirst = s.ledFirst.withPeers ps n := by
  have anchor := anchorStep_eq s.lead.1 s.selected s.selectedPhase s.steer
  have anchor' := anchorStep_eq s.lead.1 s.selected s.selectedPhase (s.withPeers ps n).steer
  have holdover := holdoverStep_eq s.lead.1 s.steer
  have holdover' := holdoverStep_eq s.lead.1 (s.withPeers ps n).steer
  unfold State.ledFirst State.ledSteer
  rw [lead_withPeers same]
  change ({ s.withPeers ps n with
    floor := _, steer := { (s.withPeers ps n).steer with
      role := _, leading := _, announced := _
      anchor := (anchorStep s.lead.1 s.selected s.selectedPhase (s.withPeers ps n).steer).anchor
      offset := (anchorStep s.lead.1 s.selected s.selectedPhase (s.withPeers ps n).steer).offset
      recordAnchor := (anchorStep s.lead.1 s.selected s.selectedPhase (s.withPeers ps n).steer).recordAnchor
      holdover := _, ownHold := _ } } : State) = _
  rw [anchor, anchor', holdover, holdover']
  rfl

theorem led_withPeers (same : SameSources n s.steer.snapshot) : (s.withPeers ps n).led = s.led.withPeers ps n := by
  rw [led_eq, led_eq, ledFirst_withPeers same, lead_withPeers same]
  exact ite_blind Iff.rfl (setOwnHold_blind _ ps n) rfl

theorem anchorError_withPeers (same : SameSources n s.steer.snapshot) : (s.withPeers ps n).anchorError = s.anchorError := by
  unfold State.anchorError
  rw [led_withPeers same]
  rfl

theorem peerErrors_withPeers (same : SameSources n s.steer.snapshot) : (s.withPeers ps n).peerErrors = s.peerErrors := by
  have snapshot : s.led.steer.snapshot = s.steer.snapshot := (congrArg Steer.snapshot (led_spec s).2.1 :)
  unfold State.peerErrors
  rw [led_withPeers same, lead_withPeers same, snapshot]
  exact same.terms s.floor.generation s.lead.2

theorem combined_withPeers (same : SameSources n s.steer.snapshot) : (s.withPeers ps n).combined = s.combined := by
  unfold State.combined
  rw [lead_withPeers same, peerErrors_withPeers same, anchorError_withPeers same]
  rfl

theorem meanError_withPeers (same : SameSources n s.steer.snapshot) : (s.withPeers ps n).meanError = s.meanError := by
  unfold State.meanError
  rw [lead_withPeers same, peerErrors_withPeers same]
  rfl

theorem jumping_withPeers (same : SameSources n s.steer.snapshot) (ending : Bool) :
    (s.withPeers ps n).jumping ending = s.jumping ending := by
  unfold State.jumping
  rw [combined_withPeers same]
  rfl

theorem lockTested_withPeers (same : SameSources n s.steer.snapshot) (ending : Bool) :
    (s.withPeers ps n).lockTested ending = (s.lockTested ending).withPeers ps n := by
  unfold State.lockTested
  rw [led_withPeers same, jumping_withPeers same, combined_withPeers same]
  rfl

theorem jumped_withPeers (same : SameSources n s.steer.snapshot) (ending : Bool) :
    (s.withPeers ps n).jumped ending = (s.jumped ending).withPeers ps n := by
  unfold State.jumped
  rw [jumping_withPeers same, combined_withPeers same, lockTested_withPeers same]
  refine ite_blind Iff.rfl ?_ rfl
  generalize s.lockTested ending = u
  exact forLines_blind jumpNotice_blind u.enabledLines { u with
    floor := { u.floor with
      shift := some (s.combined.getD 0), unshifted := u.floor.generation, cut := true
      generation := bump Config.max32 u.floor.generation }
    steer := { u.steer with offset := none, recordAnchor := none } } ps n

theorem recorded_withPeers (same : SameSources n s.steer.snapshot) (ending : Bool) :
    (s.withPeers ps n).recorded ending = (s.recorded ending).withPeers ps n := by
  unfold State.recorded State.filtered
  rw [jumped_withPeers same, jumping_withPeers same, combined_withPeers same, anchorError_withPeers same, meanError_withPeers same]
  rfl

/-- A computation reads the peers through their sources and terms. -/
theorem compute_withPeers (same : SameSources n s.steer.snapshot) (ending : Bool) :
    compute ending (s.withPeers ps n) = (compute ending s).withPeers ps n := by
  have verdict : (s.withPeers ps n).over ending = s.over ending := by
    unfold State.over
    rw [lockTested_withPeers same, anchorError_withPeers same, meanError_withPeers same]
    rfl
  rw [compute_eq, compute_eq, recorded_withPeers same, verdict]
  exact forLines_blind (takeVerdict_blind _) _ _ ps n

end

/-! ### The hand-over and the close -/

theorem historyStep_snapshot (f : Floor) (t : Steer) (n : Vector PeerSnap 12) :
    historyStep f { t with snapshot := n } = { historyStep f t with snapshot := n } := by
  unfold historyStep
  refine Eq.trans ?_ (apply_ite (fun u : Steer => { u with snapshot := n }) ..).symm
  exact ite_congr rfl (fun _ => rfl) fun _ => rfl

theorem closed_blind (ending : Bool) : BlindToPeers (State.closed ending) := fun s ps n => by
  unfold State.closed
  exact congrArg (fun x : Steer => ({ s.withPeers ps n with
    floor := { ({ s.floor with listenEnded := s.floor.listenEnded || ending } : Floor).addFreq with epochFirst := true }, steer := x } : State))
    (historyStep_snapshot s.floor s.steer n)

/-- Peer tables with the same holds hand over to parts that differ in the peers alone. -/
theorem handed_withPeers {s : State} {ps : Vector Peer 12}
    (holds : (s.withPeers ps s.steer.snapshot).handed.steer.peerHold = s.handed.steer.peerHold) :
    (s.withPeers ps s.steer.snapshot).handed
      = s.handed.withPeers (s.withPeers ps s.steer.snapshot).handed.peers (s.withPeers ps s.steer.snapshot).handed.steer.snapshot := by
  have taken : noticesFirst ((s.withPeers ps s.steer.snapshot).took .epochMark)
      = (noticesFirst (s.took .epochMark)).withPeers ps s.steer.snapshot := noticesFirst_blind (s.took .epochMark) ps s.steer.snapshot
  unfold State.handed at holds ⊢
  rw [taken] at holds ⊢
  generalize noticesFirst (s.took .epochMark) = b at *
  unfold peerEpochWork at holds ⊢
  dsimp only at holds ⊢
  rw [holds]
  rfl

/-- Snapshots whose entries are the same, or no source on either side, have the same sources and terms. -/
theorem sameSources_of_get {n m : Vector PeerSnap 12}
    (same : ∀ q, n.get q = m.get q ∨ (sourceGrade (n.get q) = none ∧ sourceGrade (m.get q) = none)) : SameSources n m := by
  constructor
  · unfold bestPeer
    rw [toList_eq_map, toList_eq_map, List.foldl_map, List.foldl_map]
    refine congrArg (fun f => List.foldl f none allPeers) (funext fun best => funext fun q => ?_)
    obtain same | ⟨left, right⟩ := same q
    · rw [same]
    · rw [left, right]
  · intro generation lead
    unfold peerTerms
    rw [toList_eq_map, toList_eq_map, List.filterMap_map, List.filterMap_map]
    refine congrArg (fun f => List.filterMap f allPeers) (funext fun q => ?_)
    dsimp only [Function.comp_apply]
    obtain same | ⟨left, right⟩ := same q
    · rw [same]
    · rw [left, right]
      simp

/-- An entry that announces FOLLOWING is never handed over as a source peer (R85). -/
theorem sourceGrade_of_following {e : Peer} (own : Octet) (following : e.announced.map Announced.role = some .following) :
    sourceGrade (snapOf own (agePeer e)) = none := by
  have kept : (agePeer e).announced = e.announced ∨ (agePeer e).state = .absent := by
    by_cases absent : e.state = .absent
    · exact .inr (by rw [agePeer_absent absent]; exact absent)
    · by_cases young : e.sinceAny < 15
      · exact .inl (by rw [agePeer_young absent young])
      · exact .inr (by rw [agePeer_old absent (by omega)])
  unfold snapOf
  split
  · rfl
  · next present =>
    obtain ⟨x, announced, role⟩ := Option.map_eq_some_iff.mp following
    have same : (agePeer e).announced = some x := (kept.resolve_right present).trans announced
    unfold sourceGrade
    dsimp only
    rw [same]
    exact if_neg fun h => h.2.2.1 role

/-- Parts handed over with the same sources come out of the mark the same but for the peers. -/
theorem exec_epochMark_withPeers {s s' t : State} {ps : Vector Peer 12} {n : Vector PeerSnap 12} (runs : s.running = true)
    (floor : s'.floor = s.floor) (handed : s'.handed = s.handed.withPeers ps n) (sources : SameSources n s.handed.steer.snapshot)
    (run : exec .epochMark s = .next t) : exec .epochMark s' = .next (t.withPeers ps n) := by
  by_cases late : s.floor.state = .start → 3 ≤ s.floor.listen
  · have runs' : s'.running = true := by
      unfold State.running
      rw [floor]
      exact runs
    rw [exec_epochMark_computing runs' (by rw [floor]; exact late), handed, floor, compute_withPeers sources, closed_blind,
      Host.Outcome.next.inj (run.symm.trans (exec_epochMark_computing runs late))]
  · obtain ⟨start, early⟩ := Classical.not_imp.mp late
    rw [exec_epochMark_listening (by rw [floor]; exact start) (by rw [floor]; omega), handed,
      Host.Outcome.next.inj (run.symm.trans (exec_epochMark_listening start (by omega)))]
    rfl

/-- Settles O35: the peers handed over have the same sources, and the rest of the mark reads no more of them. -/
theorem followersDoNotSteer : Obligations.FollowersDoNotSteer := by
  intro p e s role role' hold since present present'
  obtain ⟨s', set⟩ : ∃ s', s.setPeer p e = s' := ⟨_, rfl⟩
  have peer : ∀ q, s'.peer q = if q = p then e else s.peer q := fun q => by rw [← set, State.peer_setPeer]
  have peers : s' = s.withPeers (s.peers.set p e) s.steer.snapshot := by rw [← set]; rfl
  have others : ∀ q, q ≠ p → s'.peer q = s.peer q := fun q other => by rw [peer, if_neg other]
  rw [set]
  by_cases runs : s.running = true
  · have handed := handed_spec s
    have handed' := handed_spec s'
    have holds : s'.handed.steer.peerHold = s.handed.steer.peerHold := by
      rw [Bool.eq_iff_iff, handed.peerHold, handed'.peerHold]
      refine exists_congr fun q => ?_
      by_cases own : q = p
      · have mine : s'.peer q = e := by rw [peer, if_pos own]
        rw [mine, agePeer_hold, agePeer_hold, own, hold, since]
        simp [present, present']
      · rw [others q own]
    obtain ⟨c, t, ending, run, steers, closes, -⟩ := exec_epochMark_parts runs
    have same : s'.handed = s.handed.withPeers s'.handed.peers s'.handed.steer.snapshot := by
      rw [peers] at holds ⊢
      exact handed_withPeers holds
    have sources : SameSources s'.handed.steer.snapshot s.handed.steer.snapshot := sameSources_of_get fun q => by
      rw [handed.snapshot, handed'.snapshot]
      by_cases own : q = p
      · refine .inr ⟨sourceGrade_of_following _ ?_, sourceGrade_of_following _ ?_⟩
        · rw [peer, if_pos own]
          exact role'
        · rw [own]
          exact role
      · exact .inl (by rw [others q own, peers]; rfl)
    have floor : s'.floor = s.floor := by rw [peers]; rfl
    refine ⟨t, _, run, exec_epochMark_withPeers runs floor same sources run, rfl, rfl, rfl, rfl, rfl, fun q other => ⟨?_, ?_⟩⟩
    · have table : t.peer q = s.handed.peer q :=
        (congrArg (fun u : State => u.peer q) closes.rest :).trans (congrArg (fun u : State => u.peer q) steers.frame :)
      refine Eq.trans ?_ table.symm
      refine (handed'.peer q).trans ?_
      rw [handed.peer, others q other, floor]
    · have snapshot : t.steer.snapshot = s.handed.steer.snapshot := (congrArg Steer.snapshot closes.steer :).trans steers.snapshot
      rw [snapshot]
      refine (handed'.snapshot q).trans ?_
      rw [handed.snapshot, others q other, peers]
      rfl
  · have still : ∀ u : State, u.floor = s.floor → exec .epochMark u = .next (u.took .epochMark) := fun u floor =>
      congrArg Host.Outcome.next (if_neg (by
        have : (u.took .epochMark).running = s.running := congrArg (fun f : Floor => f.state != .loading) floor
        rw [this]
        exact runs))
    exact ⟨_, _, still s rfl, still s' (by rw [peers]; rfl), by rw [peers]; rfl, by rw [peers]; rfl, by rw [peers]; rfl,
      by rw [peers]; rfl, by rw [peers]; rfl, fun q other => ⟨others q other, by rw [peers]; rfl⟩⟩

end Sys2Proof.Machine
end

section
/-! INQUIRY_* and REPORT_SUBMISSION: an INQUIRY enters service, its REPORT is submitted (07, section 7.3; 09, section 9.2). -/

namespace Sys2Proof.Machine

/-! ### Into service (R126, R135, R158) -/

theorem serveInquiry_of_head {s : State} {q : RxEntry} {p : Nat → Bool} (served : HeadServed 4 q s)
    (subject : p (octetAt q.octets 2) = true) : serveInquiry p s
      = if 4 ≤ s.bus.reports.length then { s.popped with inquiryDropped := true }
        else { s with service := some (startBuild s q), freeCount := s.freeCount + 1 } := by
  have head : inquiryHead s p = some q := by
    unfold inquiryHead
    rw [headOfKind_of_headServed served]
    exact Option.filter_eq_some_iff.mpr ⟨rfl, subject⟩
  unfold serveInquiry
  rw [head]

/-- The command of each subject takes the INQUIRY of that subject. -/
theorem exec_inquiry {c : Instr} {q : RxEntry} {s : State} (served : HeadServed 4 q s)
    (subject : (c = .inquiryLog ∧ octetAt q.octets 2 = 1) ∨ (c = .inquiryLines ∧ octetAt q.octets 2 = 2)
      ∨ (c = .inquiryPeers ∧ octetAt q.octets 2 = 3) ∨ (c = .inquiryStation ∧ octetAt q.octets 2 = 4)
      ∨ (c = .inquiryUnknownSubject ∧ (octetAt q.octets 2 = 0 ∨ 5 ≤ octetAt q.octets 2))) :
    exec c s = .next (if 4 ≤ s.bus.reports.length then { s.popped with inquiryDropped := true }
      else { s with service := some (startBuild s q), freeCount := s.freeCount + 1 }) := by
  obtain ⟨rfl, h⟩ | ⟨rfl, h⟩ | ⟨rfl, h⟩ | ⟨rfl, h⟩ | ⟨rfl, h⟩ := subject
  · exact congrArg Host.Outcome.next (serveInquiry_of_head (p := fun n => n == 1) served (by simp [h]))
  · exact congrArg Host.Outcome.next (serveInquiry_of_head (p := fun n => n == 2) served (by simp [h]))
  · exact congrArg Host.Outcome.next (serveInquiry_of_head (p := fun n => n == 3) served (by simp [h]))
  · exact congrArg Host.Outcome.next (serveInquiry_of_head (p := fun n => n == 4) served (by simp [h]))
  · exact congrArg Host.Outcome.next
      (serveInquiry_of_head (p := fun n => n == 0 || decide (4 < n)) served (by simp; omega))

/-- Settles O50, by `exec_inquiry`. -/
theorem inquiriesEnterService : Obligations.InquiriesEnterService := by
  intro c q s served subject
  have run := exec_inquiry served subject
  refine ⟨fun full => ?_, fun room => ⟨_, run, reportDelay s, ?_, ?_, ?_⟩⟩
  · rw [run, if_pos full, ← List.drop_one]
    rfl
  · exact Nat.le_add_left 1 _
  · have := Nat.mod_lt (Config.reportTime s.freeCount) (show 0 < 16384 by decide)
    unfold reportDelay
    omega
  · rw [if_neg (by omega)]
    rfl

/-! ### The REPORT bulletin (R136) -/

theorem payloadOctets_length (p : BitVec 384) (n : Nat) : (payloadOctets p n).length = n := by simp [payloadOctets]

/-- The REPORT by its octets: five, then the payload. -/
theorem reportBulletin_eq (s : State) (b : Build) : reportBulletin s b
    = BitVec.ofNat 8 (80 + s.number) :: BitVec.ofNat 8 b.inquirer.toNat :: b.subject
      :: BitVec.ofNat 8 (b.more.toNat + 2 * b.gap.toNat + 4 * s.inquiryDropped.toNat) :: BitVec.ofNat 8 b.items
      :: payloadOctets b.payload (b.items * itemLength b.subject.toNat) := by
  simp [reportBulletin, header, Nat.mod_eq_of_lt s.number_lt]

theorem marks_bits : ∀ m g d : Bool, (BitVec.ofNat 8 (m.toNat + 2 * g.toNat + 4 * d.toNat)).getLsbD 0 = m
    ∧ (BitVec.ofNat 8 (m.toNat + 2 * g.toNat + 4 * d.toNat)).getLsbD 1 = g
    ∧ (BitVec.ofNat 8 (m.toNat + 2 * g.toNat + 4 * d.toNat)).getLsbD 2 = d
    ∧ (BitVec.ofNat 8 (m.toNat + 2 * g.toNat + 4 * d.toNat)).toNat < 8 := by decide

/-- What stands in the first five octets of a REPORT. -/
structure ReportHead (s : State) (b : Build) (x : List Octet) : Prop where
  source : octetAt x 0 = 80 + s.number
  destination : octetAt x 1 = b.inquirer.toNat
  subject : x.getD 2 0#8 = b.subject
  more : flagAt x 3 0 = b.more
  gap : flagAt x 3 1 = b.gap
  dropped : flagAt x 3 2 = s.inquiryDropped
  marks : octetAt x 3 < 8
  items : octetAt x 4 = b.items % 256
  length : x.length = 5 + b.items * itemLength b.subject.toNat

theorem reportBulletin_head (s : State) (b : Build) : ReportHead s b (reportBulletin s b) := by
  rw [reportBulletin_eq]
  exact {
    source := by
      have := s.number_lt
      simp only [octetAt, List.getD_cons_zero, BitVec.toNat_ofNat]
      omega
    destination := by
      have := b.inquirer.isLt
      simp only [octetAt, List.getD_cons_zero, List.getD_cons_succ, BitVec.toNat_ofNat]
      omega
    subject := rfl
    more := (marks_bits _ _ _).1
    gap := (marks_bits _ _ _).2.1
    dropped := (marks_bits _ _ _).2.2.1
    marks := (marks_bits _ _ _).2.2.2
    items := by simp [octetAt]
    length := by
      simp only [List.length_cons, payloadOctets_length]
      omega }

/-! ### The submission (R106, R136) -/

/-- Two parts in which the units of every REPORT hold the same. -/
structure SameReading (s s' : State) : Prop where
  fields : unitFields s' = unitFields s
  marks : unitMarks s' = unitMarks s
  units : unitsOf s' = unitsOf s

/-- The list of what is due, the service and the count of free values stand in no REPORT. -/
theorem sameReading_of (s : State) (cs : List Instr) (v : Option Build) (n : Nat) :
    SameReading s { s with due := cs, service := v, freeCount := n } := ⟨rfl, rfl, rfl⟩

theorem SameReading.readUnits {s s' : State} (same : SameReading s s') (n : Nat) (b : Build) : readUnits s' n b = readUnits s n b := by
  induction n generalizing b with
  | zero => rfl
  | succ n ih =>
    have one : readUnit s' b = readUnit s b := by
      unfold readUnit
      rw [same.fields, same.marks, same.units]
    exact (ih _).trans (congrArg (Machine.readUnits s n) one)

/-- The building `u` is `b` with the units up to `m` read in `s`: no more than there are, the payload joined by their fields, and the
marks as they stand, if any was read. -/
structure ReadUpTo (s : State) (b : Build) (m : Nat) (u : Build) : Prop where
  frame : u = { b with unitsDone := m, payload := u.payload, items := u.items, more := u.more, gap := u.gap }
  onward : b.unitsDone ≤ m
  among : b.unitsDone < m → m ≤ unitsOf s b
  none : m = b.unitsDone → u = b
  marks : b.unitsDone < m → (u.items, u.more, u.gap) = unitMarks s b
  payload : ∀ j, u.payload.getLsbD j = true
    ↔ b.payload.getLsbD j = true ∨ ∃ k, b.unitsDone ≤ k ∧ k < m ∧ (packFields (unitFields s b k)).getLsbD j = true

theorem ReadUpTo.refl (s : State) (b : Build) : ReadUpTo s b b.unitsDone b where
  frame := rfl
  onward := le_rfl
  among h := absurd h (lt_irrefl _)
  none _ := rfl
  marks h := absurd h (lt_irrefl _)
  payload _ := ⟨.inl, fun h => h.resolve_right fun ⟨_, low, high, _⟩ => absurd low (by omega)⟩

/-- What a building reads next turns on its subject and parameter alone. -/
theorem ReadUpTo.same {s : State} {b u : Build} {m : Nat} (read : ReadUpTo s b m u) :
    unitFields s u = unitFields s b ∧ unitMarks s u = unitMarks s b ∧ unitsOf s u = unitsOf s b ∧ u.unitsDone = m := by
  rw [read.frame]
  exact ⟨rfl, rfl, rfl, rfl⟩

theorem ReadUpTo.trans {s : State} {b u v : Build} {m n : Nat} (first : ReadUpTo s b m u) (second : ReadUpTo s u n v) :
    ReadUpTo s b n v := by
  obtain ⟨fields, marks, units, done⟩ := first.same
  have low := first.onward
  have high := second.onward
  rw [done] at high
  exact {
    frame := by
      have frame := second.frame
      rw [first.frame] at frame
      exact frame
    onward := low.trans high
    among := fun more => by
      by_cases moved : m < n
      · exact units ▸ second.among (done ▸ moved)
      · have : n = m := by omega
        exact this ▸ first.among (by omega)
    none := fun stays => by
      rw [second.none (by omega), first.none (by omega)]
    marks := fun more => by
      by_cases moved : m < n
      · exact marks ▸ second.marks (done ▸ moved)
      · rw [second.none (by omega)]
        exact first.marks (by omega)
    payload := fun j => by
      rw [second.payload, first.payload, fields, done, or_assoc]
      refine or_congr Iff.rfl ⟨?_, ?_⟩
      · rintro (⟨k, low', high', bit⟩ | ⟨k, low', high', bit⟩)
        · exact ⟨k, low', by omega, bit⟩
        · exact ⟨k, by omega, high', bit⟩
      · rintro ⟨k, low', high', bit⟩
        by_cases early : k < m
        · exact .inl ⟨k, low', early, bit⟩
        · exact .inr ⟨k, by omega, high', bit⟩ }

theorem readUnit_upTo {s : State} {b : Build} (left : b.unitsDone < unitsOf s b) : ReadUpTo s b (b.unitsDone + 1) (readUnit s b) := by
  have step : readUnit s b = { b with
      unitsDone := b.unitsDone + 1, payload := b.payload ||| packFields (unitFields s b b.unitsDone)
      items := (unitMarks s b).1, more := (unitMarks s b).2.1, gap := (unitMarks s b).2.2 } := if_pos left
  rw [step]
  exact {
    frame := rfl
    onward := Nat.le_succ _
    among := fun _ => left
    none := fun stays => absurd stays (by omega)
    marks := fun _ => rfl
    payload := fun j => by
      dsimp only
      rw [BitVec.getLsbD_or, Bool.or_eq_true]
      refine or_congr Iff.rfl ⟨fun bit => ⟨_, le_rfl, Nat.lt_succ_self _, bit⟩, ?_⟩
      rintro ⟨k, low, high, bit⟩
      obtain rfl : k = b.unitsDone := by omega
      exact bit }

theorem readUnits_upTo (s : State) (n : Nat) (b : Build) :
    ReadUpTo s b (min (b.unitsDone + n) (max b.unitsDone (unitsOf s b))) (readUnits s n b) := by
  induction n generalizing b with
  | zero =>
    have stays : min (b.unitsDone + 0) (max b.unitsDone (unitsOf s b)) = b.unitsDone := by omega
    rw [stays]
    exact .refl s b
  | succ n ih =>
    change ReadUpTo s b _ (readUnits s n (readUnit s b))
    by_cases left : b.unitsDone < unitsOf s b
    · have first := readUnit_upTo left
      obtain ⟨-, -, units, done⟩ := first.same
      have tail := ih (readUnit s b)
      rw [units, done] at tail
      have same : min (b.unitsDone + 1 + n) (max (b.unitsDone + 1) (unitsOf s b))
        = min (b.unitsDone + (n + 1)) (max b.unitsDone (unitsOf s b)) := by omega
      rw [same] at tail
      exact first.trans tail
    · have stays : readUnit s b = b := if_neg left
      have tail := ih b
      have same : min (b.unitsDone + n) (max b.unitsDone (unitsOf s b))
        = min (b.unitsDone + (n + 1)) (max b.unitsDone (unitsOf s b)) := by omega
      rw [stays, ← same]
      exact tail

/-- The building at its submission: the units still unread are read. -/
def Build.whole (b : Build) (s : State) : Build := readUnits s (unitsOf s b) b

theorem Build.whole_upTo (b : Build) (s : State) : ReadUpTo s b (max b.unitsDone (unitsOf s b)) (b.whole s) := by
  have read := readUnits_upTo s (unitsOf s b) b
  rwa [show min (b.unitsDone + unitsOf s b) (max b.unitsDone (unitsOf s b)) = max b.unitsDone (unitsOf s b) by omega] at read

/-- No subject's item count exceeds twelve (R159 to R163). -/
theorem unitMarks_items (s : State) (b : Build) : (unitMarks s b).1 ≤ 12 := by
  unfold unitMarks logWindow
  split
  · exact (List.length_take_le 4 _).trans (by decide)
  · exact (List.length_take_le 8 _).trans (by decide)
  · exact le_rfl
  · exact (by decide : 1 ≤ 12)
  · exact Nat.zero_le _

theorem unitsOf_unknown {s : State} {b : Build} (unknown : b.subject.toNat = 0 ∨ 5 ≤ b.subject.toNat) : unitsOf s b = 0 := by
  unfold unitsOf
  split
  · omega
  · omega
  · omega
  · omega
  · rfl

theorem itemLength_unknown {n : Nat} (unknown : n = 0 ∨ 5 ≤ n) : itemLength n = 0 := by
  unfold itemLength
  split
  · omega
  · omega
  · omega
  · omega
  · rfl

/-- A REPORT is discarded in standalone mode or with four held, and joins the slots otherwise. -/
theorem submitReport_spec (x : Bulletin) (s : State) :
    (s.standalone = true ∨ 4 ≤ s.bus.reports.length → (submitReport x s).bus = s.bus)
      ∧ (s.standalone = false → s.bus.reports.length < 4 →
        (submitReport x s).bus = { s.bus with reports := s.bus.reports ++ [x], flight := (submitReport x s).bus.flight }
          ∧ (s.bus.flight.isSome = true → (submitReport x s).bus.flight = s.bus.flight)
          ∧ (s.bus.flight = none → PickMade (submitReport x s))) := by
  unfold submitReport
  refine ⟨fun silent => ?_, fun loud room => ?_⟩
  · rw [if_pos (by simpa using silent)]
  · rw [if_neg (by simp [loud]; omega)]
    refine ⟨?_, fun flies => ?_, fun idle => pickMade_pick idle⟩
    · rw [pick_spec]
      rfl
    · exact (congrArg (fun t : State => t.bus.flight)
        (pick_of_flight' (s := s.onBus fun b => { b with reports := b.reports ++ [x] }) flies) :)

/-- REPORT_SUBMISSION with `b` in building. -/
theorem exec_reportSubmission {s : State} {b : Build} (serving : s.service = some b) : exec .reportSubmission s
    = .next (submitReport (reportBulletin s (b.whole s)) { (s.took .reportSubmission).popped with service := none, inquiryDropped := false }) := by
  have whole : b.whole (s.took .reportSubmission) = b.whole s := (sameReading_of s _ s.service s.freeCount).readUnits _ b
  rw [← whole]
  change execReportSubmission s = _
  unfold execReportSubmission
  rw [serving]
  rfl

/-- Settles O51: the submission by `submitReport_spec`, the octets by `reportBulletin_head`. -/
theorem reportIsSubmitted : Obligations.ReportIsSubmitted := by
  intro b s serving
  obtain ⟨silent, loud⟩ := submitReport_spec (reportBulletin s (b.whole s))
    { (s.took .reportSubmission).popped with service := none, inquiryDropped := false }
  have frame := submitReport_frame (reportBulletin s (b.whole s))
    { (s.took .reportSubmission).popped with service := none, inquiryDropped := false }
  have run := exec_reportSubmission serving
  have head := reportBulletin_head s (b.whole s)
  generalize submitReport (reportBulletin s (b.whole s))
    { (s.took .reportSubmission).popped with service := none, inquiryDropped := false } = t at *
  have read := b.whole_upTo s
  have destination : (b.whole s).inquirer = b.inquirer := (congrArg Build.inquirer read.frame :)
  have subject : (b.whole s).subject = b.subject := (congrArg Build.subject read.frame :)
  have sized : ∀ k, b.items ≤ 12 → itemLength b.subject.toNat = k →
      (reportBulletin s (b.whole s)).length = 5 + k * octetAt (reportBulletin s (b.whole s)) 4 := fun k small size => by
    have few : (b.whole s).items ≤ 12 := by
      by_cases more : b.unitsDone < max b.unitsDone (unitsOf s b)
      · rw [(Prod.mk.inj (read.marks more)).1]
        exact unitMarks_items s b
      · rw [read.none (by omega)]
        exact small
    rw [head.length, head.items, subject, size, Nat.mod_eq_of_lt (by omega), Nat.mul_comm]
  refine ⟨t, run, (congrArg State.service frame :), ?_, (congrArg State.inquiryDropped frame :), (congrArg State.due frame :),
    silent, fun loudly room => ?_, ?_⟩
  · rw [← List.drop_one]
    exact (congrArg State.queue frame :)
  · obtain ⟨bus, flight⟩ := loud loudly room
    refine ⟨⟨_, bus, head.source, by rw [head.destination, destination], head.subject.trans subject, head.dropped, head.marks,
      fun small log => sized 12 small (by rw [log]; rfl), fun small lines => sized 6 small (by rw [lines]; rfl),
      fun small peers => sized 4 small (by rw [peers]; rfl), fun small station => sized 48 small (by rw [station]; rfl),
      fun none unknown => ?_⟩, flight⟩
    have unread : b.whole s = b := read.none (by rw [unitsOf_unknown unknown]; omega)
    rw [head.length, head.items, subject, itemLength_unknown unknown, unread, none]
    exact ⟨rfl, rfl⟩
  · exact (congrArg (fun u : State => { u with
      service := s.service, queue := s.queue, inquiryDropped := s.inquiryDropped, due := s.due }) frame :)

end Sys2Proof.Machine
end

section
/-! The payload of a REPORT, bit by bit: fields in their places, units one behind the other (07, section 7.1; R159; log 29). -/

namespace Sys2Proof.Machine

/-! ### Fields -/

/-- Bit `j` is one of the field's. -/
def Field.Covers (f : Field) (j : Nat) : Prop := f.pos ≤ j ∧ j < f.pos + f.width

theorem Field.bits_getLsbD (f : Field) (j : Nat) :
    f.bits.getLsbD j = true ↔ j < 384 ∧ f.Covers j ∧ f.value.testBit (j - f.pos) = true := by
  unfold Field.bits Field.Covers
  rw [BitVec.getLsbD_shiftLeft, BitVec.getLsbD_ofNat, Nat.testBit_mod_two_pow]
  simp only [Bool.and_eq_true, Bool.not_eq_true', decide_eq_true_eq, decide_eq_false_iff_not]
  constructor
  · rintro ⟨⟨inside, behind⟩, -, ahead, bit⟩
    exact ⟨inside, ⟨by omega, by omega⟩, bit⟩
  · rintro ⟨inside, ⟨behind, ahead⟩, bit⟩
    exact ⟨⟨inside, by omega⟩, by omega, by omega, bit⟩

theorem packFields_getLsbD (fs : List Field) (j : Nat) : (packFields fs).getLsbD j = true ↔ ∃ f ∈ fs, f.bits.getLsbD j = true := by
  have fold : ∀ (fs : List Field) (acc : BitVec 384), (fs.foldl (fun acc f => acc ||| f.bits) acc).getLsbD j = true
      ↔ acc.getLsbD j = true ∨ ∃ f ∈ fs, f.bits.getLsbD j = true := fun fs => by
    induction fs with
    | nil => simp
    | cons f fs ih =>
      intro acc
      rw [List.foldl_cons, ih, BitVec.getLsbD_or, Bool.or_eq_true, or_assoc]
      simp
  unfold packFields
  rw [fold]
  simp

/-- Fields that follow one another. -/
def InOrder (fs : List Field) : Prop := (fs.map fun f => (f.pos, f.width)).Pairwise fun p q => p.1 + p.2 ≤ q.1

/-- Fields no two of which share a bit. -/
def Apart (fs : Field → Prop) : Prop := ∀ f g, fs f → fs g → ∀ j, f.Covers j → g.Covers j → f = g

theorem InOrder.apart {fs : List Field} (order : InOrder fs) : Apart (· ∈ fs) := by
  intro f g member member' j first second
  obtain ⟨i, small, rfl⟩ := List.mem_iff_getElem.mp member
  obtain ⟨k, small', rfl⟩ := List.mem_iff_getElem.mp member'
  have behind := List.pairwise_iff_getElem.mp (List.pairwise_map.mp order)
  have := first.1
  have := first.2
  have := second.1
  have := second.2
  obtain less | rfl | more := Nat.lt_trichotomy i k
  · have := behind i k small small' less
    dsimp only at this
    omega
  · rfl
  · have := behind k i small' small more
    dsimp only at this
    omega

/-! ### What stands in a range of bits -/

/-- The `w` bits of a payload from `p` on. -/
def view (x : BitVec 384) (p w : Nat) : Nat := x.toNat / 2 ^ p % 2 ^ w

theorem view_testBit (x : BitVec 384) (p w i : Nat) : (view x p w).testBit i = (decide (i < w) && x.getLsbD (p + i)) := by
  unfold view
  rw [Nat.testBit_mod_two_pow, Nat.testBit_div_two_pow, Nat.add_comm, BitVec.testBit_toNat]

theorem view_lt (x : BitVec 384) (p w : Nat) : view x p w < 2 ^ w := Nat.mod_lt _ (Nat.two_pow_pos w)

/-- A range read in two parts. -/
theorem view_split (x : BitVec 384) (p v w : Nat) : view x p (v + w) = view x p v + 2 ^ v * view x (p + v) w := by
  unfold view
  rw [Nat.pow_add 2 v w, Nat.mod_mul, Nat.pow_add, Nat.div_div_eq_div_mul]

/-- A payload holds the fields of a set. -/
def Carries (x : BitVec 384) (fs : Field → Prop) : Prop := ∀ j, x.getLsbD j = true ↔ ∃ f, fs f ∧ f.bits.getLsbD j = true

theorem Carries.view_field {x : BitVec 384} {fs : Field → Prop} (holds : Carries x fs) (apart : Apart fs) {f : Field} (member : fs f)
    (fits : f.pos + f.width ≤ 384) : view x f.pos f.width = f.value % 2 ^ f.width := by
  refine Nat.eq_of_testBit_eq fun i => ?_
  rw [view_testBit, Nat.testBit_mod_two_pow]
  by_cases small : i < f.width
  · rw [decide_eq_true small, Bool.true_and, Bool.true_and, Bool.eq_iff_iff, holds]
    have covers : f.Covers (f.pos + i) := ⟨by omega, by omega⟩
    constructor
    · rintro ⟨g, other, bit⟩
      obtain ⟨-, covers', bit⟩ := (g.bits_getLsbD _).mp bit
      obtain rfl := apart f g member other _ covers covers'
      rwa [Nat.add_sub_cancel_left] at bit
    · intro bit
      exact ⟨f, member, (f.bits_getLsbD _).mpr ⟨by omega, covers, by rwa [Nat.add_sub_cancel_left]⟩⟩
  · rw [decide_eq_false small, Bool.false_and, Bool.false_and]

theorem Carries.view_gap {x : BitVec 384} {fs : Field → Prop} (holds : Carries x fs) {p w : Nat}
    (clear : ∀ f, fs f → f.pos + f.width ≤ p ∨ p + w ≤ f.pos) : view x p w = 0 := by
  refine Nat.eq_of_testBit_eq fun i => ?_
  rw [view_testBit, Nat.zero_testBit, ← Bool.not_eq_true, Bool.and_eq_true, decide_eq_true_eq, holds]
  rintro ⟨small, f, member, bit⟩
  obtain ⟨-, covers, -⟩ := (f.bits_getLsbD _).mp bit
  have := covers.1
  have := covers.2
  have := clear f member
  omega

theorem InOrder.shift {fs : List Field} (order : InOrder fs) (n : Nat) : InOrder (shiftFields n fs) := by
  unfold InOrder shiftFields at *
  rw [List.pairwise_map] at order
  rw [List.map_map, List.pairwise_map]
  refine order.imp fun {f g} behind => ?_
  simp only [Function.comp_apply] at *
  omega

/-- Blocks of fields one behind the other. -/
theorem Apart.blocks {F : Nat → Field → Prop} {lo : Nat → Nat} (mono : Monotone lo)
    (within : ∀ i f, F i f → lo i ≤ f.pos ∧ f.pos + f.width ≤ lo (i + 1)) (each : ∀ i, Apart (F i)) : Apart fun f => ∃ i, F i f := by
  rintro f g ⟨i, member⟩ ⟨k, member'⟩ j first second
  have low := within i f member
  have low' := within k g member'
  have := first.1
  have := first.2
  have := second.1
  have := second.2
  obtain less | rfl | more := Nat.lt_trichotomy i k
  · have := mono (show i + 1 ≤ k from less)
    omega
  · exact each i f g member member' j first second
  · have := mono (show k + 1 ≤ i from more)
    omega

/-! ### The items' shapes (R160 to R163) -/

/-- The fields lie in the first `n` bits. -/
def Inside (n : Nat) (fs : List Field) : Prop := ∀ p ∈ fs.map fun f => (f.pos, f.width), p.1 + p.2 ≤ n

theorem logItem_shape (r : Record) : InOrder (logItem r) ∧ Inside 96 (logItem r) :=
  (by decide : ([(0, 16), (16, 4), (20, 4), (24, 32), (56, 16), (72, 16), (88, 3)] : List (Nat × Nat)).Pairwise (fun p q => p.1 + p.2 ≤ q.1)
    ∧ ∀ p ∈ ([(0, 16), (16, 4), (20, 4), (24, 32), (56, 16), (72, 16), (88, 3)] : List (Nat × Nat)), p.1 + p.2 ≤ 96)

/-- Place and width of each field of a LINES item. -/
def linesShape : List (Nat × Nat) :=
  [(0, 8), (8, 3), (11, 1), (12, 1), (13, 1), (14, 1), (15, 1), (16, 1), (17, 1), (18, 1), (19, 1), (20, 1), (21, 1), (22, 1), (23, 1),
   (24, 8), (32, 16)]

theorem linesItem_shape (s : State) (l : LineNo) : InOrder (linesItem s l) ∧ Inside 48 (linesItem s l) :=
  (by decide : linesShape.Pairwise (fun p q => p.1 + p.2 ≤ q.1) ∧ ∀ p ∈ linesShape, p.1 + p.2 ≤ 48)

theorem peersItem_shape (s : State) (p : PeerNo) : InOrder (peersItem s p) ∧ Inside 32 (peersItem s p) := by
  unfold peersItem
  dsimp only
  split
  · exact (by decide : [(0, 3)].Pairwise (fun p q => p.1 + p.2 ≤ q.1) ∧ ∀ p ∈ [(0, 3)], p.1 + p.2 ≤ 32)
  · split
    · exact ⟨List.Pairwise.nil, fun p member => absurd member List.not_mem_nil⟩
    · exact (by decide : [(0, 3), (3, 2), (5, 3), (8, 2), (10, 1), (11, 1), (16, 8), (24, 8)].Pairwise (fun p q => p.1 + p.2 ≤ q.1)
        ∧ ∀ p ∈ [(0, 3), (3, 2), (5, 3), (8, 2), (10, 1), (11, 1), (16, 8), (24, 8)], p.1 + p.2 ≤ 32)

/-- Place and width of each field of the STATION payload. -/
def stationShape : List (Nat × Nat) :=
  [(0, 2), (2, 3), (5, 1), (6, 1), (8, 3), (11, 3), (16, 1), (17, 1), (18, 1), (19, 1), (24, 1), (25, 1), (26, 1),
   (27, 1), (28, 1), (29, 1), (32, 4), (36, 1), (37, 1), (40, 8), (48, 16), (64, 32), (96, 16), (112, 16), (128, 32),
   (160, 32), (192, 16), (208, 8), (216, 8), (224, 16), (240, 16), (256, 16), (272, 16), (288, 16), (304, 16),
   (320, 8), (328, 8), (336, 8)]

theorem stationFields_shape (s : State) : (stationFields s).map (fun f => (f.pos, f.width)) = stationShape := rfl

/-! ### The units (R159) -/

theorem stationPlaces_length : stationPlaces.length = 38 := by decide

theorem unitBits_mono (subject : Nat) : Monotone (unitBits subject) := by
  refine monotone_nat_of_le_succ fun n => ?_
  unfold unitBits
  split
  · split
    · exact Nat.zero_le _
    · rw [if_neg (by omega)]
  · omega
  · omega
  · by_cases inside : n < 38
    · exact (by decide : ∀ k : Fin 38, stationPlaces.getD k.val 384 ≤ stationPlaces.getD (k.val + 1) 384) ⟨n, inside⟩
    · rw [List.getD_eq_default _ _ (by rw [stationPlaces_length]; omega), List.getD_eq_default _ _ (by rw [stationPlaces_length]; omega)]
  · exact le_rfl

section
variable {s : State} {b : Build}

/-- The records that a LOG report shows. -/
def logShown (s : State) (b : Build) : List Record := (logWindow s.log b.parameter).1

/-- The lines that a LINES report shows. -/
def linesShown (s : State) (b : Build) : List LineNo := (linesFrom s b.parameter).take 8

theorem logShown_length : (logShown s b).length ≤ 4 := List.length_take_le 4 _

theorem linesShown_length : (linesShown s b).length ≤ 8 := List.length_take_le 8 _

theorem unitsOf_log (h : b.subject.toNat = 1) : unitsOf s b = 1 ∧ unitMarks s b
    = ((logShown s b).length, (logWindow s.log b.parameter).2.1, (logWindow s.log b.parameter).2.2) := by
  unfold unitsOf unitMarks
  rw [h]
  exact ⟨rfl, rfl⟩

theorem unitsOf_lines (h : b.subject.toNat = 2) : unitsOf s b = (linesShown s b).length ∧ unitMarks s b
    = ((linesShown s b).length, decide (8 < (linesFrom s b.parameter).length), false) := by
  unfold unitsOf unitMarks
  rw [h]
  exact ⟨rfl, rfl⟩

theorem unitsOf_peers (h : b.subject.toNat = 3) : unitsOf s b = 12 ∧ unitMarks s b = (12, false, false) := by
  unfold unitsOf unitMarks
  rw [h]
  exact ⟨rfl, rfl⟩

theorem unitsOf_station (h : b.subject.toNat = 4) : unitsOf s b = 38 ∧ unitMarks s b = (1, false, false) := by
  unfold unitsOf unitMarks
  rw [h]
  exact ⟨rfl, rfl⟩

theorem mem_unitFields_log (h : b.subject.toNat = 1) (k : Nat) (f : Field) :
    f ∈ unitFields s b k ↔ ∃ i r, (logShown s b)[i]? = some r ∧ f ∈ shiftFields (96 * i) (logItem r) := by
  unfold unitFields
  rw [h]
  simp only [List.mem_flatten, List.mem_map, Prod.exists, List.mem_zipIdx_iff_getElem?]
  constructor
  · rintro ⟨_, ⟨r, i, at_, rfl⟩, member⟩
    exact ⟨i, r, at_, member⟩
  · rintro ⟨i, r, at_, member⟩
    exact ⟨_, ⟨r, i, at_, rfl⟩, member⟩

theorem mem_unitFields_lines (h : b.subject.toNat = 2) (k : Nat) (f : Field) :
    f ∈ unitFields s b k ↔ ∃ l, (linesShown s b)[k]? = some l ∧ f ∈ shiftFields (48 * k) (linesItem s l) := by
  unfold unitFields
  rw [h]
  change f ∈ (match (linesShown s b)[k]? with
    | some l => shiftFields (48 * k) (linesItem s l)
    | none => []) ↔ _
  cases (linesShown s b)[k]? with
  | none => simp
  | some l => simp

theorem unitFields_peers (h : b.subject.toNat = 3) (k : Nat) : unitFields s b k = shiftFields (32 * k) (peersItem s (Fin.ofNat 12 k)) := by
  unfold unitFields
  rw [h]
  rfl

theorem mem_unitFields_station (h : b.subject.toNat = 4) (k : Nat) (f : Field) :
    f ∈ unitFields s b k ↔ (stationFields s)[k]? = some f := by
  unfold unitFields
  rw [h]
  exact Option.mem_toList

/-- The subjects. -/
theorem subject_cases (n : Nat) : n = 1 ∨ n = 2 ∨ n = 3 ∨ n = 4 ∨ (n = 0 ∨ 5 ≤ n) := by omega

theorem inside_shift {n : Nat} {fs : List Field} (inside : Inside n fs) {o : Nat} {f : Field} (member : f ∈ shiftFields o fs) :
    o ≤ f.pos ∧ f.pos + f.width ≤ o + n := by
  obtain ⟨g, own, rfl⟩ := List.mem_map.mp member
  have := inside (g.pos, g.width) (List.mem_map.mpr ⟨g, own, rfl⟩)
  dsimp only at *
  omega

theorem index_lt {α : Type} {xs : List α} {i : Nat} {x : α} (at_ : xs[i]? = some x) : i < xs.length :=
  (List.getElem?_eq_some_iff.mp at_).1

/-- The fields of a unit lie among its bits, and those of every unit in the octets of the items. -/
theorem unit_within {k : Nat} (unit : k < unitsOf s b) {f : Field} (member : f ∈ unitFields s b k) :
    unitBits b.subject.toNat k ≤ f.pos ∧ f.pos + f.width ≤ unitBits b.subject.toNat (k + 1)
      ∧ f.pos + f.width ≤ 8 * ((unitMarks s b).1 * itemLength b.subject.toNat)
      ∧ 8 * ((unitMarks s b).1 * itemLength b.subject.toNat) ≤ 384 := by
  obtain h | h | h | h | h := subject_cases b.subject.toNat
  · obtain ⟨units, marks⟩ := unitsOf_log (s := s) h
    obtain ⟨i, r, at_, member⟩ := (mem_unitFields_log h k f).mp member
    have := inside_shift (logItem_shape r).2 member
    have := index_lt at_
    have := logShown_length (s := s) (b := b)
    rw [units] at unit
    obtain rfl : k = 0 := by omega
    rw [marks, h]
    change 0 ≤ _ ∧ _ ≤ 384 ∧ _ ≤ 8 * ((logShown s b).length * 12) ∧ 8 * ((logShown s b).length * 12) ≤ 384
    omega
  · obtain ⟨units, marks⟩ := unitsOf_lines (s := s) h
    obtain ⟨l, at_, member⟩ := (mem_unitFields_lines h k f).mp member
    have := inside_shift (linesItem_shape s l).2 member
    have := index_lt at_
    have := linesShown_length (s := s) (b := b)
    rw [marks, h]
    change 48 * k ≤ _ ∧ _ ≤ 48 * (k + 1) ∧ _ ≤ 8 * ((linesShown s b).length * 6) ∧ 8 * ((linesShown s b).length * 6) ≤ 384
    omega
  · obtain ⟨units, marks⟩ := unitsOf_peers (s := s) h
    rw [unitFields_peers h] at member
    have := inside_shift (peersItem_shape s _).2 member
    rw [units] at unit
    rw [marks, h]
    change 32 * k ≤ _ ∧ _ ≤ 32 * (k + 1) ∧ _ ≤ 8 * (12 * 4) ∧ 8 * (12 * 4) ≤ 384
    omega
  · obtain ⟨units, marks⟩ := unitsOf_station (s := s) h
    have at_ := (mem_unitFields_station h k f).mp member
    rw [units] at unit
    have shape : stationShape[k]? = some (f.pos, f.width) := by
      rw [← stationFields_shape s, List.getElem?_map, at_]
      rfl
    have places := (by decide : ∀ k : Fin 38, ∀ p ∈ stationShape[k.val]?, stationPlaces.getD k.val 384 ≤ p.1
      ∧ p.1 + p.2 ≤ stationPlaces.getD (k.val + 1) 384 ∧ p.1 + p.2 ≤ 384) ⟨k, unit⟩ (f.pos, f.width) shape
    rw [marks, h]
    exact ⟨places.1, places.2.1, places.2.2, by decide⟩
  · rw [unitsOf_unknown h] at unit
    omega

end

end Sys2Proof.Machine
end

section
/-! A REPORT read over several periods holds, unit by unit, what a REPORT read at once would show (07, section 7.1; 09, section 9.2; R159). -/

namespace Sys2Proof.Machine

section
variable {s : State} {b : Build}

/-- The fields of a subject. -/
def AllFields (s : State) (b : Build) (f : Field) : Prop := ∃ k, k < unitsOf s b ∧ f ∈ unitFields s b k

theorem unit_apart {k : Nat} (unit : k < unitsOf s b) : Apart (· ∈ unitFields s b k) := by
  obtain h | h | h | h | h := subject_cases b.subject.toNat
  · have blocks := Apart.blocks (F := fun i f => ∃ r, (logShown s b)[i]? = some r ∧ f ∈ shiftFields (96 * i) (logItem r))
      (lo := fun i => 96 * i) (fun i k le => Nat.mul_le_mul_left 96 le)
      (fun i f ⟨r, _, member⟩ => by have := inside_shift (logItem_shape r).2 member; omega)
      fun i f g ⟨r, at_, member⟩ ⟨r', at_', member'⟩ => by
        obtain rfl := Option.some.inj (at_.symm.trans at_')
        exact ((logItem_shape r).1.shift _).apart f g member member'
    intro f g member member'
    exact blocks f g ((mem_unitFields_log h k f).mp member) ((mem_unitFields_log h k g).mp member')
  · intro f g member member'
    obtain ⟨l, at_, member⟩ := (mem_unitFields_lines h k f).mp member
    obtain ⟨l', at_', member'⟩ := (mem_unitFields_lines h k g).mp member'
    obtain rfl := Option.some.inj (at_.symm.trans at_')
    exact ((linesItem_shape s l).1.shift _).apart f g member member'
  · intro f g member member'
    rw [unitFields_peers h] at member member'
    exact ((peersItem_shape s _).1.shift _).apart f g member member'
  · intro f g member member' _ _ _
    exact Option.some.inj (((mem_unitFields_station h k f).mp member).symm.trans ((mem_unitFields_station h k g).mp member'))
  · rw [unitsOf_unknown h] at unit
    omega

/-- No two fields of a REPORT share a bit. -/
theorem allFields_apart (s : State) (b : Build) : Apart (AllFields s b) :=
  Apart.blocks (F := fun k f => k < unitsOf s b ∧ f ∈ unitFields s b k) (unitBits_mono b.subject.toNat)
    (fun _ _ ⟨unit, member⟩ => ⟨(unit_within unit member).1, (unit_within unit member).2.1⟩)
    fun _ f g ⟨unit, member⟩ ⟨_, member'⟩ => unit_apart unit f g member member'

/-- Bit `j` of the payload is read with unit `k`, whose bits it is among. -/
theorem unit_bit {k j : Nat} (unit : k < unitsOf s b) (bit : (packFields (unitFields s b k)).getLsbD j = true) :
    unitBits b.subject.toNat k ≤ j ∧ j < unitBits b.subject.toNat (k + 1)
      ∧ j < 8 * ((unitMarks s b).1 * itemLength b.subject.toNat) := by
  obtain ⟨f, member, bit⟩ := (packFields_getLsbD _ j).mp bit
  obtain ⟨-, covers, -⟩ := (f.bits_getLsbD j).mp bit
  have within := unit_within unit member
  have := covers.1
  have := covers.2
  omega

/-- A REPORT read at once holds every field. -/
theorem whole_begun (s : State) (b : Build) : ReadUpTo s b.begun (unitsOf s b) (b.begun.whole s) := by
  have read := b.begun.whole_upTo s
  rwa [show max b.begun.unitsDone (unitsOf s b.begun) = unitsOf s b from Nat.zero_max _] at read

theorem whole_begun_bit (s : State) (b : Build) (j : Nat) : (b.begun.whole s).payload.getLsbD j = true
    ↔ ∃ k, k < unitsOf s b ∧ (packFields (unitFields s b k)).getLsbD j = true := by
  rw [(whole_begun s b).payload]
  have empty : b.begun.payload.getLsbD j = false := BitVec.getLsbD_zero
  have fields : unitFields s b.begun = unitFields s b := rfl
  rw [empty, fields]
  simp only [Bool.false_eq_true, false_or, show b.begun.unitsDone = 0 from rfl, Nat.zero_le, true_and]

theorem whole_begun_carries (s : State) (b : Build) : Carries (b.begun.whole s).payload (AllFields s b) := fun j => by
  rw [whole_begun_bit]
  simp only [packFields_getLsbD, AllFields]
  constructor
  · rintro ⟨k, unit, f, member, bit⟩
    exact ⟨f, ⟨k, unit, member⟩, bit⟩
  · rintro ⟨f, ⟨k, unit, member⟩, bit⟩
    exact ⟨k, unit, f, member, bit⟩

theorem whole_begun_marks (s : State) (b : Build) :
    ((b.begun.whole s).items, (b.begun.whole s).more, (b.begun.whole s).gap) = unitMarks s b ∨ unitsOf s b = 0 := by
  by_cases any : 0 < unitsOf s b
  · exact .inl ((whole_begun s b).marks any)
  · exact .inr (by omega)

/-! ### The octets of a REPORT -/

/-- Bit `j` of a REPORT's payload. -/
theorem payloadBit_report (s : State) (b : Build) (j : Nat) : payloadBit (reportBulletin s b) j
    = (decide (j < 8 * (b.items * itemLength b.subject.toNat)) && b.payload.getLsbD j) := by
  unfold payloadBit flagAt
  rw [reportBulletin_eq]
  have skip : ∀ (x0 x1 x2 x3 x4 : Octet) (xs : List Octet) (n : Nat),
    (x0 :: x1 :: x2 :: x3 :: x4 :: xs).getD (5 + n) 0#8 = xs.getD n 0#8 := fun x0 x1 x2 x3 x4 xs n => by
      rw [Nat.add_comm]
      rfl
  rw [skip]
  by_cases inside : j < 8 * (b.items * itemLength b.subject.toNat)
  · rw [decide_eq_true inside, Bool.true_and, List.getD_eq_getElem _ _ (by rw [payloadOctets_length]; omega)]
    simp only [payloadOctets, List.getElem_map, List.getElem_range, BitVec.getLsbD_extractLsb']
    rw [decide_eq_true (by omega), Bool.true_and, Nat.div_add_mod]
  · rw [decide_eq_false inside, Bool.false_and, List.getD_eq_default _ _ (by rw [payloadOctets_length]; omega)]
    exact BitVec.getLsbD_zero

/-- The submission of a REPORT, where it is not discarded. -/
theorem reports_of_room (loud : s.standalone = false) (room : s.bus.reports.length < 4) (b : Build) :
    Reports b s (reportBulletin s (b.whole s)) := by
  have run := exec_reportSubmission (s := { s with service := some b }) (b := b) rfl
  have same : b.whole { s with service := some b } = b.whole s :=
    (sameReading_of s s.due (some b) s.freeCount).readUnits _ b
  rw [same] at run
  generalize seen : ({ (({ s with service := some b } : State).took .reportSubmission).popped with
    service := none, inquiryDropped := false } : State) = u at run
  have quiet : u.standalone = false ∧ u.bus = s.bus := by
    subst seen
    exact ⟨loud, rfl⟩
  have sent := (submitReport_spec (reportBulletin s (b.whole s)) u).2 quiet.1 (by rwa [quiet.2])
  exact ⟨_, run, by rw [← quiet.2]; exact (congrArg Bus.reports sent.1 :)⟩

/-! ### What has been read and what stands (R159) -/

theorem getLsbD_false_of_lt {x : BitVec 384} {n j : Nat} (small : x.toNat < 2 ^ n) (above : n ≤ j) : x.getLsbD j = false := by
  rw [← BitVec.testBit_toNat]
  exact Nat.testBit_lt_two_pow (small.trans_le (Nat.pow_le_pow_right (by decide) above))

/-- Whether a unit is among the first `m` is told by where its bits stand. -/
theorem unit_before_iff {k j m : Nat} (unit : k < unitsOf s b) (bit : (packFields (unitFields s b k)).getLsbD j = true) :
    k < m ↔ j < unitBits b.subject.toNat m := by
  obtain ⟨low, high, -⟩ := unit_bit unit bit
  constructor
  · intro first
    exact high.trans_le (unitBits_mono _ first)
  · intro first
    by_contra behind
    have := unitBits_mono b.subject.toNat (show m ≤ k by omega)
    omega

/-- A payload read further: what it held stays, and behind it stands what a REPORT read at once holds there. -/
theorem ReadUpTo.payload_join {u : Build} {m : Nat} (read : ReadUpTo s b m u) (units : b.unitsDone < m)
    (before : b.payload.toNat < 2 ^ unitBits b.subject.toNat b.unitsDone) {j : Nat} (inside : j < unitBits b.subject.toNat m) :
    u.payload.getLsbD j = if j < unitBits b.subject.toNat b.unitsDone then b.payload.getLsbD j
      else (b.begun.whole s).payload.getLsbD j := by
  rw [Bool.eq_iff_iff, read.payload]
  have among := read.among units
  split
  next early =>
    refine or_iff_left ?_
    rintro ⟨k, low, high, bit⟩
    have := (unit_before_iff (show k < unitsOf s b by omega) bit).mpr early
    omega
  next late =>
    rw [whole_begun_bit, getLsbD_false_of_lt before (by omega)]
    constructor
    · rintro (absent | ⟨k, low, high, bit⟩)
      · exact absurd absent (by decide)
      · exact ⟨k, by omega, bit⟩
    · rintro ⟨k, unit, bit⟩
      refine .inr ⟨k, ?_, (unit_before_iff unit bit).mpr inside, bit⟩
      by_contra first
      exact late ((unit_before_iff unit bit).mp (by omega))

/-- A payload read further holds no bit of a unit that is unread. -/
theorem ReadUpTo.payload_lt {u : Build} {m : Nat} (read : ReadUpTo s b m u)
    (before : b.payload.toNat < 2 ^ unitBits b.subject.toNat b.unitsDone) : u.payload.toNat < 2 ^ unitBits b.subject.toNat m := by
  refine Nat.lt_pow_two_of_testBit _ fun j above => ?_
  rw [BitVec.testBit_toNat, ← Bool.not_eq_true, read.payload,
    getLsbD_false_of_lt before ((unitBits_mono _ read.onward).trans above)]
  rintro (absent | ⟨k, low, high, bit⟩)
  · exact absurd absent (by decide)
  · have := read.among (by omega)
    have := (unit_before_iff (show k < unitsOf s b by omega) bit).mp high
    omega

/-- The bits of a REPORT read at once lie in its octets. -/
theorem payloadBit_begun (s : State) (b : Build) (j : Nat) :
    payloadBit (reportBulletin s (b.begun.whole s)) j = (b.begun.whole s).payload.getLsbD j := by
  have subject : (b.begun.whole s).subject = b.subject := (congrArg Build.subject (whole_begun s b).frame :)
  rw [payloadBit_report, subject, Bool.and_eq_right_iff_imp, whole_begun_bit]
  rintro ⟨k, unit, bit⟩
  obtain marks | none := whole_begun_marks s b
  · rw [decide_eq_true_eq, (Prod.mk.inj marks).1]
    exact (unit_bit unit bit).2.2
  · omega

/-- A REPORT that has been read in part against one read at once. -/
theorem read_in_parts {x y : List Octet} (before : b.payload.toNat < 2 ^ unitBits b.subject.toNat b.unitsDone)
    (first : x = reportBulletin s (b.whole s)) (second : y = reportBulletin s (b.begun.whole s)) :
    x.take 3 = y.take 3 ∧ (b.unitsDone < unitsOf s b → x.length = y.length ∧ x.take 5 = y.take 5)
      ∧ (unitsOf s b ≤ b.unitsDone → octetAt x 4 = b.items % 256 ∧ flagAt x 3 0 = b.more ∧ flagAt x 3 1 = b.gap)
      ∧ ∀ j, j < 8 * (x.length - 5) →
        payloadBit x j = if j < unitBits b.subject.toNat b.unitsDone then b.payload.getLsbD j else payloadBit y j := by
  have read := b.whole_upTo s
  have frame := read.frame
  have frame' := (whole_begun s b).frame
  have subject : (b.whole s).subject = b.subject := (congrArg Build.subject frame :)
  have subject' : (b.begun.whole s).subject = b.subject := (congrArg Build.subject frame' :)
  have inquirer : (b.whole s).inquirer = b.inquirer := (congrArg Build.inquirer frame :)
  have inquirer' : (b.begun.whole s).inquirer = b.inquirer := (congrArg Build.inquirer frame' :)
  have head : ReportHead s (b.whole s) x := first ▸ reportBulletin_head s _
  have octets := first.trans (reportBulletin_eq s _)
  have octets' := second.trans (reportBulletin_eq s _)
  rw [subject, inquirer] at octets
  rw [subject', inquirer'] at octets'
  refine ⟨by rw [octets, octets']; rfl, fun left => ?_, fun none => ?_, fun j inside => ?_⟩
  · have marks := read.marks (by omega)
    have marks' := (whole_begun s b).marks (show 0 < unitsOf s b by omega)
    obtain ⟨items, more, gap⟩ : (b.whole s).items = (b.begun.whole s).items ∧ (b.whole s).more = (b.begun.whole s).more
        ∧ (b.whole s).gap = (b.begun.whole s).gap := by
      have same := marks.trans (marks'.symm : unitMarks s b = _)
      obtain ⟨items, rest⟩ := Prod.mk.inj same
      exact ⟨items, Prod.mk.inj rest⟩
    rw [octets, octets', items, more, gap]
    exact ⟨by simp only [List.length_cons, payloadOctets_length], rfl⟩
  · have unread := read.none (by omega)
    rw [unread] at head
    exact ⟨head.items, head.more, head.gap⟩
  · have among : j < 8 * ((b.whole s).items * itemLength b.subject.toNat) := by
      have := head.length
      rw [subject] at this
      omega
    rw [first, payloadBit_report, subject, decide_eq_true among, Bool.true_and, second, payloadBit_begun]
    by_cases left : b.unitsDone < unitsOf s b
    · by_cases within : j < unitBits b.subject.toNat (max b.unitsDone (unitsOf s b))
      · exact read.payload_join (by omega) before within
      · have above : unitBits b.subject.toNat b.unitsDone ≤ j := (unitBits_mono _ (Nat.le_max_left _ (unitsOf s b))).trans (by omega)
        rw [if_neg (by omega), getLsbD_false_of_lt (read.payload_lt before) (by omega), eq_comm, ← Bool.not_eq_true, whole_begun_bit]
        rintro ⟨k, unit, bit⟩
        have := (unit_before_iff (m := max b.unitsDone (unitsOf s b)) unit bit).mp (by omega)
        omega
    · rw [read.none (by omega)]
      split
      next => rfl
      next late =>
        rw [getLsbD_false_of_lt before (by omega), eq_comm, ← Bool.not_eq_true, whole_begun_bit]
        rintro ⟨k, unit, bit⟩
        exact late ((unit_before_iff unit bit).mp (by omega))

end

end Sys2Proof.Machine
end

section
/-! REPORT_SUBMISSION and the periods of the building before it: what is read in each (09, section 9.2; R127, R159; logs 12, 29). -/

namespace Sys2Proof.Machine

section
variable {s : State} {b : Build}

theorem ReadUpTo.of_same {v t : State} {u : Build} {m : Nat} (same : SameReading v t) (read : ReadUpTo v b m u) : ReadUpTo t b m u where
  frame := read.frame
  onward := read.onward
  among := same.units ▸ read.among
  none := read.none
  marks := same.marks ▸ read.marks
  payload := same.fields ▸ read.payload

/-- The bus interface's part of a period leaves the REPORT slots and submits none. -/
theorem tickBus_reports (s : State) : (tickBus s).bus.reports = s.bus.reports
    ∧ (.reportSubmission ∈ (tickBus s).due → .reportSubmission ∈ s.due) := by
  by_cases on : s.onBusNow = true
  · rw [tickBus_eq on]
    refine ⟨by dsimp only; split <;> rfl, fun member => ?_⟩
    simp only [List.mem_append] at member
    obtain before | (member | member) | member := member
    · exact before
    · obtain ⟨xs, h⟩ | h | h := mem_received member <;> cases h
    · obtain h | h := mem_sendingEvents member <;> cases h
    · split at member
      · obtain h | h | h | h := bitTimeEvents_only member <;> cases h
      · cases member
  · rw [show tickBus s = s by simp [tickBus, on]]
    exact ⟨rfl, id⟩

/-- A period of the building: further units are read as the period's other work leaves them. -/
theorem Idling.step_service (h : Idling s) (running : s.running = true) (serving : s.service = some b) :
    ∃ t m u, step s = .next t ∧ ReadUpTo t { b with age := b.age + 1 } m u ∧ t.service = some u
      ∧ (.reportSubmission ∈ t.due ↔ b.age + 1 = b.delay)
      ∧ t.standalone = s.standalone ∧ t.bus.reports = s.bus.reports := by
  have inputs := s.inputsTaken_frame
  have bus := (tickBus_spec s.inputsTaken).1
  obtain ⟨reports, submits⟩ := tickBus_reports s.inputsTaken
  have still : .reportSubmission ∉ s.inputsTaken.due := fun member => by
    obtain member | member | member := State.mem_inputsTaken_due member
    · rw [h.2.1] at member
      cases member
    · cases member
    · cases member
  have service : (tickBus s.inputsTaken).service = some b :=
    (congrArg State.service bus :).trans ((congrArg State.service inputs :).trans serving)
  have loader : (tickBus s.inputsTaken).loader = s.loader := (congrArg State.loader bus :).trans s.inputsTaken_loader
  rw [s.inputsTaken_bus] at reports
  have ticked := h.step_eq
  rw [h.tick_running running, tickService_of_some _ _ service] at ticked
  refine ⟨_, _, _, ticked, (readUnits_upTo (tickBus s.inputsTaken) _ _).of_same (sameReading_of _ _ _ _), rfl, ?_, ?_, reports⟩
  · rw [List.mem_append, or_iff_right fun member => still (submits member)]
    split
    next due => exact ⟨fun _ => due, fun _ => List.mem_singleton.mpr rfl⟩
    next waits => exact ⟨fun member => absurd member List.not_mem_nil, fun due => absurd due waits⟩
  · exact congrArg (fun d : Loader => decide (12 ≤ d.strap.toNat)) loader

/-- A period of the building against the REPORT read at once at its end. -/
theorem step_of_building (serving : s.service = some b) (loud : s.standalone = false) (room : s.bus.reports.length < 4)
    (before : b.payload.toNat < 2 ^ unitBits b.subject.toNat b.unitsDone) (idle : Idling s) (running : s.running = true) :
    Completes (step s) fun t => ∃ u : Build,
      t.service = some { b with
          age := b.age + 1, unitsDone := u.unitsDone, payload := u.payload, items := u.items, more := u.more, gap := u.gap }
        ∧ (.reportSubmission ∈ t.due ↔ b.age + 1 = b.delay)
        ∧ b.unitsDone ≤ u.unitsDone ∧ u.payload.toNat < 2 ^ unitBits b.subject.toNat u.unitsDone
        ∧ (u.unitsDone = b.unitsDone →
          u.payload = b.payload ∧ u.items = b.items ∧ u.more = b.more ∧ u.gap = b.gap)
        ∧ (b.unitsDone < u.unitsDone → u.unitsDone ≤ unitsOf t b ∧ ∃ y, Reports b.begun t y
          ∧ u.items = octetAt y 4 ∧ u.more = flagAt y 3 0 ∧ u.gap = flagAt y 3 1
          ∧ ∀ j, j < unitBits b.subject.toNat u.unitsDone →
            u.payload.getLsbD j
              = if j < unitBits b.subject.toNat b.unitsDone then b.payload.getLsbD j else payloadBit y j) := by
  obtain ⟨t, m, u, run, read, service, due, standalone, reports⟩ := idle.step_service running serving
  obtain rfl := read.same.2.2.2
  refine ⟨t, run, u, service.trans (congrArg some read.frame), due, read.onward, read.payload_lt before, fun stays => ?_,
    fun onward => ⟨read.among onward, ?_⟩⟩
  · rw [read.none stays]
    exact ⟨rfl, rfl, rfl, rfl⟩
  · have marks := (read.marks onward).trans
      ((whole_begun t b).marks ((Nat.zero_lt_of_lt onward).trans_le (read.among onward) :)).symm
    obtain ⟨items, rest⟩ := Prod.mk.inj marks
    obtain ⟨more, gap⟩ := Prod.mk.inj rest
    have head := reportBulletin_head t (b.begun.whole t)
    have few : u.items ≤ 12 := (Prod.mk.inj (read.marks onward)).1 ▸ unitMarks_items t b
    refine ⟨_, reports_of_room (standalone.trans loud) (reports ▸ room) b.begun, ?_, more.trans head.more.symm, gap.trans head.gap.symm,
      fun j inside => ?_⟩
    · rw [head.items, ← items, Nat.mod_eq_of_lt (by omega)]
    · rw [payloadBit_begun]
      exact read.payload_join onward before inside

end

end Sys2Proof.Machine
end

section
/-! A REPORT's octets against the fields of its payload (07, section 7.1). -/

namespace Sys2Proof.Machine

theorem view_mod (x : BitVec 384) (p v w : Nat) : view x p (v + w) % 2 ^ v = view x p v := by
  rw [view_split, Nat.add_mul_mod_self_left, Nat.mod_eq_of_lt (view_lt x p v)]

theorem view_div (x : BitVec 384) (p v w : Nat) : view x p (v + w) / 2 ^ v = view x (p + v) w := by
  rw [view_split, Nat.add_mul_div_left _ _ (Nat.two_pow_pos v), Nat.div_eq_of_lt (view_lt x p v), Nat.zero_add]

/-- The octets from 5 on are the payload's. -/
def PayloadOf (x : List Octet) (z : BitVec 384) : Prop := ∀ j, payloadBit x j = z.getLsbD j

section
variable {x : List Octet} {z : BitVec 384} {m p : Nat}

theorem PayloadOf.octet (payload : PayloadOf x z) (at_ : p + 40 = 8 * m) : octetAt x m = view z p 8 := by
  refine Nat.eq_of_testBit_eq fun i => ?_
  rw [view_testBit, octetAt, BitVec.testBit_toNat]
  by_cases small : i < 8
  · rw [decide_eq_true small, Bool.true_and, ← payload, payloadBit, flagAt, show 5 + (p + i) / 8 = m by omega,
      show (p + i) % 8 = i by omega]
  · rw [decide_eq_false small, Bool.false_and, BitVec.getLsbD_of_ge _ _ (by omega)]

theorem PayloadOf.octets16 (payload : PayloadOf x z) (at_ : p + 40 = 8 * m) : octets16 x m = view z p 16 := by
  rw [view_split z p 8 8, Machine.octets16, payload.octet at_, payload.octet (p := p + 8) (by omega)]
  rfl

theorem PayloadOf.octets32 (payload : PayloadOf x z) (at_ : p + 40 = 8 * m) : octets32 x m = view z p 32 := by
  rw [view_split z p 16 16, Machine.octets32, payload.octets16 at_, payload.octets16 (p := p + 16) (by omega)]
  rfl

/-- A flag of a REPORT is a field of one bit. -/
theorem PayloadOf.flag (payload : PayloadOf x z) {k : Nat} {f : Bool} (at_ : p + 40 = 8 * m + k) (small : k < 8)
    (field : view z p 1 = flagValue f % 2 ^ 1) : flagAt x m k = f := by
  have bit := payload p
  rw [payloadBit, show 5 + p / 8 = m by omega, show p % 8 = k by omega] at bit
  have seen := view_testBit z p 1 0
  rw [field, decide_eq_true (by decide), Bool.true_and, Nat.add_zero] at seen
  rw [bit, ← seen]
  cases f <;> rfl

end

section
variable {s : State} {b : Build}

/-- The payload of a REPORT read at once. -/
abbrev payloadRead (s : State) (b : Build) : BitVec 384 := (b.begun.whole s).payload

theorem report_payload (s : State) (b : Build) : PayloadOf (reportBulletin s (b.begun.whole s)) (payloadRead s b) :=
  payloadBit_begun s b

/-- A field of a REPORT read at once. -/
theorem view_unitField {k : Nat} (unit : k < unitsOf s b) {f : Field} (member : f ∈ unitFields s b k) :
    view (payloadRead s b) f.pos f.width = f.value % 2 ^ f.width := by
  have within := unit_within unit member
  exact (whole_begun_carries s b).view_field (allFields_apart s b) ⟨k, unit, member⟩ (by omega)

/-- Where no field of a unit stands, its bits are 0. -/
theorem view_unitGap {k : Nat} {p w : Nat} (low : unitBits b.subject.toNat k ≤ p) (high : p + w ≤ unitBits b.subject.toNat (k + 1))
    (clear : ∀ f ∈ unitFields s b k, f.pos + f.width ≤ p ∨ p + w ≤ f.pos) : view (payloadRead s b) p w = 0 := by
  refine (whole_begun_carries s b).view_gap fun f ⟨i, unit, member⟩ => ?_
  have within := unit_within unit member
  obtain less | rfl | more := Nat.lt_trichotomy i k
  · have := unitBits_mono b.subject.toNat (show i + 1 ≤ k from less)
    omega
  · exact clear f member
  · have := unitBits_mono b.subject.toNat (show k + 1 ≤ i from more)
    omega

end

end Sys2Proof.Machine
end

section
/-! The items of LOG, LINES and PEERS and the STATION payload, as a REPORT read at once shows them (07, section 7.1; R160 to R163). -/

namespace Sys2Proof.Machine

section
variable {s : State} {b : Build} {x : List Octet} {z : BitVec 384}

/-- The item `fs`, whose `n` bits begin at `o`, stands in a payload. -/
structure ItemAt (z : BitVec 384) (o n : Nat) (fs : List Field) : Prop where
  field : ∀ f ∈ fs, view z (f.pos + o) f.width = f.value % 2 ^ f.width
  gap : ∀ p w, p + w ≤ n → (∀ q ∈ fs.map (fun f => (f.pos, f.width)), q.1 + q.2 ≤ p ∨ p + w ≤ q.1) → view z (p + o) w = 0

theorem ItemAt.nth {o n : Nat} {fs : List Field} (item : ItemAt z o n fs) (i : Nat) {f : Field} (member : fs[i]? = some f) :
    view z (f.pos + o) f.width = f.value % 2 ^ f.width := item.field f (List.mem_of_getElem? member)

/-- A range read in two parts of known values. -/
theorem view_pair {p o v w c d : Nat} (low : view z (p + o) v = c) (high : view z (p + v + o) w = d) :
    view z (p + o) (v + w) = c + 2 ^ v * d := by
  rw [view_split, low, Nat.add_right_comm, high]

/-- An item's flag. -/
theorem ItemAt.flag {o n : Nat} {fs : List Field} (item : ItemAt z o n fs) (payload : PayloadOf x z) (i p m j : Nat) {v : Bool}
    (member : fs[i]? = some ⟨p, 1, flagValue v⟩) (at_ : p + o + 40 = 8 * m + j) (small : j < 8) : flagAt x m j = v :=
  payload.flag at_ small (item.nth i member)

/-! ### LOG (R160) -/

theorem recordCode_lt (kind : RecordKind) : recordCode kind < 16 := by cases kind <;> decide

theorem showsRecord_of_payload (payload : PayloadOf x z) {o k : Nat} {r : Record} (at_ : o + 40 = 8 * k)
    (item : ItemAt z o 96 (logItem r)) : ShowsRecord x k r := by
  have line := r.line.isLt
  have code := recordCode_lt r.kind
  refine ⟨?_, ?_, ?_, ?_, ?_, ?_⟩
  · rw [payload.octets16 (p := 0 + o) (by omega)]
    exact item.nth 0 rfl
  · have octet : octetAt x (k + 2) = recordCode r.kind % 16 + 16 * (r.line.val % 16) :=
      (payload.octet (p := 16 + o) (by omega)).trans (view_pair (v := 4) (w := 4) (item.nth 1 rfl) (item.nth 2 rfl))
    rw [octet, Nat.mod_eq_of_lt code, Nat.mod_eq_of_lt line, Nat.add_comm]
    cases r.kind <;> rfl
  · rw [payload.octets32 (p := 24 + o) (by omega)]
    exact item.nth 3 rfl
  · rw [payload.octets16 (p := 56 + o) (by omega)]
    exact item.nth 4 rfl
  · rw [payload.octets16 (p := 72 + o) (by omega)]
    exact item.nth 5 rfl
  · rw [payload.octet (p := 88 + o) (by omega)]
    have unused : view z (91 + o) 5 = 0 := item.gap 91 5 (by omega)
      (by decide : ∀ q ∈ ([(0, 16), (16, 4), (20, 4), (24, 32), (56, 16), (72, 16), (88, 3)] : List (Nat × Nat)),
        q.1 + q.2 ≤ 91 ∨ 91 + 5 ≤ q.1)
    exact view_pair (v := 3) (w := 5) (item.nth 6 rfl) unused

/-! ### LINES (R161) -/

theorem showsLine_of_payload (payload : PayloadOf x z) {o k : Nat} {l : LineNo} (at_ : o + 40 = 8 * k)
    (item : ItemAt z o 48 (linesItem s l)) : ShowsLine s x k l := by
  obtain ⟨a, c, summary, number, align, candidate, selected, -⟩ := lineSummary_reads s l
  have first : x.getD k 0#8 = a := by
    refine BitVec.eq_of_toNat_eq ?_
    rw [← (List.cons.inj summary).1, BitVec.toNat_ofNat]
    exact (payload.octet (p := 0 + o) (by omega)).trans (item.nth 0 rfl)
  refine ⟨?_, ?_, ?_, ?_, ?_,
    item.flag payload 2 11 _ _ rfl (by omega) (by decide), item.flag payload 3 12 _ _ rfl (by omega) (by decide),
    item.flag payload 4 13 _ _ rfl (by omega) (by decide), item.flag payload 5 14 _ _ rfl (by omega) (by decide),
    item.flag payload 6 15 _ _ rfl (by omega) (by decide), item.flag payload 7 16 _ _ rfl (by omega) (by decide),
    item.flag payload 8 17 _ _ rfl (by omega) (by decide), item.flag payload 9 18 _ _ rfl (by omega) (by decide),
    item.flag payload 10 19 _ _ rfl (by omega) (by decide), item.flag payload 11 20 _ _ rfl (by omega) (by decide),
    item.flag payload 12 21 _ _ rfl (by omega) (by decide), item.flag payload 13 22 _ _ rfl (by omega) (by decide),
    fun fits => ?_, ?_⟩
  · rw [octetAt, first, number]
  · rw [octetAt, first, align]
    cases (s.line l).lrx.align <;> rfl
  · rw [flagAt, first, candidate]
  · rw [flagAt, first, selected]
  · rw [payload.octet (p := 8 + o) (by omega)]
    exact (view_mod z (8 + o) 3 5).trans (item.nth 1 rfl)
  · have high : octetAt x (k + 2) / 128 = (s.line l).store.fill / 256 % 2 := by
      rw [payload.octet (p := 16 + o) (by omega)]
      exact (view_div z (16 + o) 7 1).trans (by rw [Nat.add_right_comm]; exact item.nth 14 rfl)
    have low : octetAt x (k + 3) = (s.line l).store.fill % 256 % 256 :=
      (payload.octet (p := 24 + o) (by omega)).trans (item.nth 15 rfl)
    omega
  · rw [payload.octets16 (p := 32 + o) (by omega)]
    exact item.nth 16 rfl

/-! ### PEERS (R162) -/

/-- Place and width of each field of a PEERS item. -/
def peersShape : List (Nat × Nat) := [(0, 3), (3, 2), (5, 3), (8, 2), (10, 1), (11, 1), (16, 8), (24, 8)]

theorem showsPeer_of_payload (payload : PayloadOf x z) {o k : Nat} {p : PeerNo} (at_ : o + 40 = 8 * k)
    (item : ItemAt z o 32 (peersItem s p)) : ShowsPeer s x k p := by
  unfold ShowsPeer
  by_cases own : p.val = s.number
  · rw [show peersItem s p = [⟨0, 3, 7⟩] from if_pos own] at item
    rw [if_pos own, payload.octets32 (p := 0 + o) (by omega)]
    exact view_pair (v := 3) (w := 29) (item.nth 0 rfl)
      (item.gap 3 29 (by omega) (by decide : ∀ q ∈ [(0, 3)], q.1 + q.2 ≤ 3 ∨ 3 + 29 ≤ q.1))
  rw [if_neg own]
  by_cases absent : (s.peer p).state = .absent
  · rw [show peersItem s p = [] from (if_neg own).trans (if_pos absent)] at item
    rw [if_pos absent, payload.octets32 (p := 0 + o) (by omega)]
    exact item.gap 0 32 (by omega) fun q member => absurd member List.not_mem_nil
  rw [if_neg absent]
  have shown : peersItem s p = _ := (if_neg own).trans (if_neg absent)
  rw [shown] at item
  have unused : view z (12 + o) 4 = 0 := item.gap 12 4 (by omega) (by decide : ∀ q ∈ peersShape, q.1 + q.2 ≤ 12 ∨ 12 + 4 ≤ q.1)
  have role : view z (3 + o) 2 = (((s.peer p).announced.map fun a => a.role.code).getD 0) % 4 := item.nth 1 rfl
  have grade : view z (5 + o) 3 = (((s.peer p).announced.map Announced.grade).getD 0) % 8 := item.nth 2 rfl
  have state : view z (8 + o) 2 = (((s.peer p).announced.map fun a => a.state.code).getD 0) % 4 := item.nth 3 rfl
  have first : octetAt x k = view z (0 + o) 3 + 8 * view z (3 + o) 5 :=
    (payload.octet (p := 0 + o) (by omega)).trans (view_pair (v := 3) (w := 5) rfl rfl)
  have behind : view z (3 + o) 5 = view z (3 + o) 2 + 4 * view z (5 + o) 3 := view_pair (v := 2) (w := 3) rfl rfl
  have second : octetAt x (k + 1) = view z (8 + o) 2 + 4 * view z (10 + o) 6 :=
    (payload.octet (p := 8 + o) (by omega)).trans (view_pair (v := 2) (w := 6) rfl rfl)
  have marks : view z (10 + o) 6 = (s.peer p).urgent.toNat % 2 + 2 * ((s.peer p).nonurgent.toNat % 2 + 2 * 0) :=
    view_pair (v := 1) (w := 5) (item.nth 4 rfl) (view_pair (v := 1) (w := 4) (item.nth 5 rfl) unused)
  have code : view z (0 + o) 3 = (s.peer p).state.code % 8 := item.nth 0 rfl
  have urgent := (s.peer p).urgent.toNat_lt
  have nonurgent := (s.peer p).nonurgent.toNat_lt
  refine ⟨?_, ?_, by omega, ?_, ?_⟩
  · rw [show octetAt x k % 8 = (s.peer p).state.code % 8 by omega]
    cases (s.peer p).state <;> rfl
  · cases announced : (s.peer p).announced with
    | none =>
      rw [announced] at role grade state
      change _ = 0 % 4 at role
      change _ = 0 % 8 at grade
      change _ = 0 % 4 at state
      exact ⟨by omega, by omega⟩
    | some a =>
      rw [announced] at role grade state
      change _ = a.role.code % 4 at role
      change _ = a.grade % 8 at grade
      change _ = a.state.code % 4 at state
      refine ⟨?_, by omega, ?_⟩
      · rw [show octetAt x k / 8 % 4 = a.role.code % 4 by omega]
        cases a.role <;> rfl
      · rw [show octetAt x (k + 1) % 4 = a.state.code % 4 by omega]
        cases a.state <;> rfl
  · exact (payload.octet (p := 16 + o) (by omega)).trans (item.nth 6 rfl)
  · exact (payload.octet (p := 24 + o) (by omega)).trans (item.nth 7 rfl)

end

end Sys2Proof.Machine
end

section
/-! The STATION payload, as a REPORT read at once shows it (07, section 7.1; R163). -/

namespace Sys2Proof.Machine

section
variable {s : State} {x : List Octet} {z : BitVec 384}

/-- A signed quantity in its range is read back from two's complement. -/
theorem toInt_twosComplement {w : Nat} {i : Int} (low : -2 ^ w ≤ i) (high : i < 2 ^ w) :
    (BitVec.ofNat (w + 1) (twosComplement (w + 1) i % 2 ^ (w + 1))).toInt = i := by
  unfold twosComplement
  rw [Nat.mod_eq_of_lt (BitVec.isLt _), BitVec.ofNat_toNat, BitVec.setWidth_eq]
  exact BitVec.toInt_ofInt_eq_self (Nat.succ_pos w) low high

theorem flagValue_mod (f : Bool) : flagValue f % 2 = f.toNat := by cases f <;> rfl

theorem stationRole_lt (r : Option Role) : stationRole r < 5 := by
  unfold stationRole
  split <;> decide

/-- The mean of sixteen values of F is one. -/
theorem ringMean_natAbs {ring : List Int} (small : ring.sum.natAbs ≤ 524287) : (ringMean ring).natAbs ≤ 32767 := by
  rw [ringMean, Int.natAbs_tdiv]
  exact Nat.le_of_lt_succ (Nat.div_lt_of_lt_mul (show ring.sum.natAbs < 16 * 32768 by omega))

/-- No field of the STATION payload stands in a range. -/
theorem ItemAt.unused (item : ItemAt z 0 384 (stationFields s)) (p w : Nat) (inside : p + w ≤ 384)
    (clear : ∀ q ∈ stationShape, q.1 + q.2 ≤ p ∨ p + w ≤ q.1) : view z (p + 0) w = 0 :=
  item.gap p w inside (stationFields_shape s ▸ clear)

/-- Octets 0 to 4 of the STATION payload, of several fields each. -/
theorem stationFlags_of_payload (payload : PayloadOf x z) (item : ItemAt z 0 384 (stationFields s)) :
    octetAt x 5 = s.floor.state.code + 4 * stationRole s.steer.role + 32 * s.steer.historyValid.toNat + 64 * s.bus.inverted.toNat
      ∧ octetAt x 6 = s.steer.announced % 8 + 8 * ((if s.steer.role.isNone then 0 else s.steer.leading.getD 0) % 8)
      ∧ octetAt x 7 = s.duplicate.toNat + 2 * s.bus.echo.toNat + 4 * s.bus.jabber.toNat + 8 * (profileLive s.peers).toNat
      ∧ octetAt x 8 = s.flags.duplicate.toNat + 2 * s.flags.echo.toNat + 4 * s.flags.jabber.toNat + 8 * s.flags.contend.toNat
        + 16 * s.flags.profile.toNat + 32 * s.flags.config.toNat
      ∧ octetAt x 9 = (s.selected.map Fin.val).getD 0 % 16 + 16 * s.selected.isSome.toNat + 32 * s.steer.offset.isSome.toNat := by
  have flag : ∀ (i p : Nat) (v : Bool), (stationFields s)[i]? = some ⟨p, 1, flagValue v⟩ → view z (p + 0) 1 = v.toNat :=
    fun i p v member => (item.nth i member).trans (flagValue_mod v)
  have unused := item.unused
  refine ⟨?_, ?_, ?_, ?_, ?_⟩
  · have octet := (payload.octet (m := 5) (p := 0 + 0) rfl).trans (view_pair (v := 2) (w := 6) (item.nth 0 rfl)
      (view_pair (v := 3) (w := 3) (item.nth 1 rfl) (view_pair (v := 1) (w := 2) (flag 2 _ _ rfl)
        (view_pair (v := 1) (w := 1) (flag 3 _ _ rfl) (unused 7 1 (by decide) (by decide))))))
    have state := s.floor.state.code_lt
    have role := stationRole_lt s.steer.role
    dsimp only at octet
    omega
  · have octet := (payload.octet (m := 6) (p := 8 + 0) rfl).trans (view_pair (v := 3) (w := 5) (item.nth 4 rfl)
      (view_pair (v := 3) (w := 2) (item.nth 5 rfl) (unused 14 2 (by decide) (by decide))))
    dsimp only at octet
    omega
  · have octet := (payload.octet (m := 7) (p := 16 + 0) rfl).trans (view_pair (v := 1) (w := 7) (flag 6 _ _ rfl)
      (view_pair (v := 1) (w := 6) (flag 7 _ _ rfl) (view_pair (v := 1) (w := 5) (flag 8 _ _ rfl)
        (view_pair (v := 1) (w := 4) (flag 9 _ _ rfl) (unused 20 4 (by decide) (by decide))))))
    omega
  · have octet := (payload.octet (m := 8) (p := 24 + 0) rfl).trans (view_pair (v := 1) (w := 7) (flag 10 _ _ rfl)
      (view_pair (v := 1) (w := 6) (flag 11 _ _ rfl) (view_pair (v := 1) (w := 5) (flag 12 _ _ rfl)
        (view_pair (v := 1) (w := 4) (flag 13 _ _ rfl) (view_pair (v := 1) (w := 3) (flag 14 _ _ rfl)
          (view_pair (v := 1) (w := 2) (flag 15 _ _ rfl) (unused 30 2 (by decide) (by decide))))))))
    omega
  · have octet := (payload.octet (m := 9) (p := 32 + 0) rfl).trans (view_pair (v := 4) (w := 4) (item.nth 16 rfl)
      (view_pair (v := 1) (w := 3) (flag 17 _ _ rfl) (view_pair (v := 1) (w := 2) (flag 18 _ _ rfl)
        (unused 38 2 (by decide) (by decide)))))
    dsimp only at octet
    omega

theorem showsStation_of_payload (payload : PayloadOf x z) (item : ItemAt z 0 384 (stationFields s)) : ShowsStation s x := by
  obtain ⟨state, grades, alarms, flags, selection⟩ := stationFlags_of_payload payload item
  have octet : ∀ (i m : Nat) (p v : Nat), (stationFields s)[i]? = some ⟨p, 8, v⟩ → p + 40 = 8 * m → octetAt x m = v % 256 :=
    fun i m p v member at_ => (payload.octet at_).trans (item.nth i member)
  have octets16 : ∀ (i m : Nat) (p v : Nat), (stationFields s)[i]? = some ⟨p, 16, v⟩ → p + 40 = 8 * m → octets16 x m = v % 65536 :=
    fun i m p v member at_ => (payload.octets16 at_).trans (item.nth i member)
  have octets32 : ∀ (i m : Nat) (p v : Nat), (stationFields s)[i]? = some ⟨p, 32, v⟩ → p + 40 = 8 * m →
      octets32 x m = v % 4294967296 := fun i m p v member at_ => (payload.octets32 at_).trans (item.nth i member)
  refine ⟨state.trans ?_, grades.trans ?_, alarms.trans ?_, flags, selection.trans ?_, octet 19 _ _ _ rfl rfl, fun small => ?_,
    fun small => ?_, fun small => ?_, octets16 23 _ _ _ rfl rfl, octets32 24 _ _ _ rfl rfl, octets32 25 _ _ _ rfl rfl,
    octets16 26 _ _ _ rfl rfl, octet 27 _ _ _ rfl rfl, octet 28 _ _ _ rfl rfl, octets16 29 _ _ _ rfl rfl,
    octets16 30 _ _ _ rfl rfl, octets16 31 _ _ _ rfl rfl, octets16 32 _ _ _ rfl rfl, octets16 33 _ _ _ rfl rfl,
    octets16 34 _ _ _ rfl rfl, octet 35 _ _ _ rfl rfl, (octet 36 _ _ _ rfl rfl).trans ?_, (octet 37 _ _ _ rfl rfl).trans ?_,
    fun k => ?_⟩
  · refine congrArg₂ (fun c r => c + 4 * r + 32 * s.steer.historyValid.toNat + 64 * s.bus.inverted.toNat) ?_ ?_
    · cases s.floor.state <;> rfl
    · rfl
  · simp only [Option.isNone_iff_eq_none]
  · exact congrArg (fun p : Bool => s.duplicate.toNat + 2 * s.bus.echo.toNat + 4 * s.bus.jabber.toNat + 8 * p.toNat)
      (Bool.eq_iff_iff.mpr ((profileLive_iff s).trans decide_eq_true_iff.symm))
  · have line : (s.selected.map Fin.val).getD 0 < 16 := by
      cases s.selected with
      | none => exact (by decide : 0 < 16)
      | some l => exact l.isLt
    rw [Nat.mod_eq_of_lt line]
  · rw [octets16 20 _ _ _ rfl rfl]
    exact toInt_twosComplement (w := 15) (by omega) (by omega)
  · rw [octets32 21 _ _ _ rfl rfl]
    exact toInt_twosComplement (w := 31) (by omega) (by omega)
  · rw [octets16 22 _ _ _ rfl rfl]
    have mean := ringMean_natAbs small
    have value : (reportedHoldover s.steer).natAbs ≤ 32767 := by
      unfold reportedHoldover
      split
      · exact mean
      · exact Nat.zero_le _
    exact toInt_twosComplement (w := 15) (by omega) (by omega)
  · exact Nat.mod_eq_of_lt (by have := s.number_lt; omega)
  · exact Nat.mod_eq_of_lt s.setup.profile.isLt
  · rw [payload.octet (p := 344 + 8 * k.val + 0) (by omega)]
    refine item.unused (344 + 8 * k.val) 8 (by omega) fun q member => .inl ?_
    have := (by decide : ∀ q ∈ stationShape, q.1 + q.2 ≤ 344) q member
    omega

end

end Sys2Proof.Machine
end

section
/-! What a REPORT holds (07, section 7.1; 09, section 9.2; R159 to R163). -/

namespace Sys2Proof.Machine

section
variable {s : State} {b : Build}

/-- An item that one unit reads stands in the REPORT read at once. -/
theorem itemAt_of_unit {k o n : Nat} {fs : List Field} (unit : k < unitsOf s b) (low : unitBits b.subject.toNat k ≤ o)
    (high : o + n ≤ unitBits b.subject.toNat (k + 1)) (own : ∀ f ∈ shiftFields o fs, f ∈ unitFields s b k)
    (others : ∀ f ∈ unitFields s b k, f ∈ shiftFields o fs ∨ f.pos + f.width ≤ o ∨ o + n ≤ f.pos) :
    ItemAt (payloadRead s b) o n fs where
  field f member := view_unitField unit (own _ (List.mem_map.mpr ⟨f, member, rfl⟩))
  gap p w inside clear := by
    refine view_unitGap (k := k) (by omega) (by omega) fun f member => ?_
    obtain shifted | apart := others f member
    · obtain ⟨g, mine, rfl⟩ := List.mem_map.mp shifted
      have := clear (g.pos, g.width) (List.mem_map.mpr ⟨g, mine, rfl⟩)
      dsimp only at *
      omega
    · omega

theorem itemAt_log (h : b.subject.toNat = 1) {i : Nat} {r : Record} (at_ : (logShown s b)[i]? = some r) :
    ItemAt (payloadRead s b) (96 * i) 96 (logItem r) := by
  have few := (index_lt at_).trans_le logShown_length
  have end_ : unitBits b.subject.toNat (0 + 1) = 384 := by rw [h]; rfl
  have start : unitBits b.subject.toNat 0 = 0 := by rw [h]; rfl
  refine itemAt_of_unit (k := 0) (by rw [(unitsOf_log h).1]; decide) (by omega) (by omega)
    (fun f member => (mem_unitFields_log h 0 f).mpr ⟨i, r, at_, member⟩) fun f member => ?_
  obtain ⟨i', r', at_', member⟩ := (mem_unitFields_log h 0 f).mp member
  by_cases same : i' = i
  · subst same
    obtain rfl := Option.some.inj (at_.symm.trans at_')
    exact .inl member
  · have := inside_shift (logItem_shape r').2 member
    omega

theorem itemAt_lines (h : b.subject.toNat = 2) {i : Nat} {l : LineNo} (at_ : (linesShown s b)[i]? = some l) :
    ItemAt (payloadRead s b) (48 * i) 48 (linesItem s l) := by
  refine itemAt_of_unit (k := i) (by rw [(unitsOf_lines h).1]; exact index_lt at_) (by rw [h]; exact le_rfl) (by rw [h]; exact le_rfl)
    (fun f member => (mem_unitFields_lines h i f).mpr ⟨l, at_, member⟩) fun f member => ?_
  obtain ⟨l', at_', member⟩ := (mem_unitFields_lines h i f).mp member
  obtain rfl := Option.some.inj (at_.symm.trans at_')
  exact .inl member

theorem itemAt_peers (h : b.subject.toNat = 3) (p : PeerNo) : ItemAt (payloadRead s b) (32 * p.val) 32 (peersItem s p) := by
  have fields : unitFields s b p.val = shiftFields (32 * p.val) (peersItem s p) := by
    rw [unitFields_peers h, show Fin.ofNat 12 p.val = p from Fin.ofNat_val_eq_self p]
  refine itemAt_of_unit (k := p.val) (by rw [(unitsOf_peers h).1]; exact p.isLt) (by rw [h]; exact le_rfl) (by rw [h]; exact le_rfl)
    (fun f member => fields ▸ member) fun f member => .inl (fields ▸ member)

theorem itemAt_station (h : b.subject.toNat = 4) : ItemAt (payloadRead s b) 0 384 (stationFields s) where
  field f member := by
    obtain ⟨k, at_⟩ := List.mem_iff_getElem?.mp member
    exact view_unitField (by rw [(unitsOf_station h).1]; exact index_lt at_) ((mem_unitFields_station h k f).mpr at_)
  gap p w _ clear := by
    refine (whole_begun_carries s b).view_gap fun f ⟨k, _, member⟩ => ?_
    have mine := List.mem_of_getElem? ((mem_unitFields_station h k f).mp member)
    exact clear (f.pos, f.width) (List.mem_map.mpr ⟨f, mine, rfl⟩)

/-- Item count, MORE and GAP of a REPORT read at once. -/
theorem report_marks (units : 0 < unitsOf s b) {n : Nat} {more gap : Bool} (marks : unitMarks s b = (n, more, gap)) :
    octetAt (reportBulletin s (b.begun.whole s)) 4 = n ∧ flagAt (reportBulletin s (b.begun.whole s)) 3 0 = more
      ∧ flagAt (reportBulletin s (b.begun.whole s)) 3 1 = gap := by
  have head := reportBulletin_head s (b.begun.whole s)
  have read := (whole_begun s b).marks units
  obtain ⟨items, rest⟩ := Prod.mk.inj (read.trans marks)
  obtain ⟨more', gap'⟩ := Prod.mk.inj rest
  have few : n ≤ 12 := by
    have := unitMarks_items s b
    rwa [marks] at this
  exact ⟨by rw [head.items, items, Nat.mod_eq_of_lt (by omega)], head.more.trans more', head.gap.trans gap'⟩

/-- A sound log's oldest record. -/
theorem oldest_of_sound {g : Log} (sound : LogSound g) :
    (g.records.head?.map Record.sequence).getD g.next = (g.next + 65536 - g.records.length) % 65536 := by
  have next := sound.next
  have sequences := sound.sequences
  cases h : g.records with
  | nil =>
    rw [List.length_nil]
    exact (show g.next = _ by omega)
  | cons r rs =>
    rw [h] at sequences
    exact sequences.1

/-- The window of a LOG report. -/
theorem logWindow_of_sound {g : Log} (sound : LogSound g) {parameter d : Nat} {rs : List Record}
    (distance : d = (parameter + 65536 - (g.next + 65536 - g.records.length) % 65536) % 65536)
    (rest : rs = g.records.drop (if d ≤ g.records.length then d else 0)) :
    logWindow g parameter = (rs.take 4, decide (4 < rs.length), decide (g.records.length < d)) := by
  unfold logWindow
  dsimp only
  rw [oldest_of_sound sound, ← distance, ← rest]

/-- A REPORT of which nothing is read. -/
theorem report_empty (none : unitsOf s b = 0) {x : List Octet} (shown : x = reportBulletin s (b.begun.whole s)) :
    octetAt x 4 = 0 ∧ flagAt x 3 0 = false ∧ flagAt x 3 1 = false ∧ x.length = 5 := by
  have unread : b.begun.whole s = b.begun := (whole_begun s b).none none
  have head := reportBulletin_head s b.begun
  rw [unread] at shown
  subst shown
  refine ⟨head.items, head.more, head.gap, ?_⟩
  rw [head.length, show b.begun.items = 0 from rfl, Nat.zero_mul]

/-- LOG (R160). -/
theorem report_log (h : b.subject.toNat = 1) (sound : LogSound s.log) {d : Nat} {rs : List Record}
    (distance : d = (b.parameter + 65536 - (s.log.next + 65536 - s.log.records.length) % 65536) % 65536)
    (rest : rs = s.log.records.drop (if d ≤ s.log.records.length then d else 0)) {x : List Octet}
    (shown : x = reportBulletin s (b.begun.whole s)) :
    octetAt x 4 = min 4 rs.length ∧ flagAt x 3 0 = decide (4 < rs.length) ∧ flagAt x 3 1 = decide (s.log.records.length < d)
      ∧ ∀ (k : Fin 4) (r : Record), rs[k.val]? = some r → ShowsRecord x (5 + 12 * k.val) r := by
  have window := logWindow_of_sound sound distance rest
  obtain ⟨units, marks⟩ := unitsOf_log (s := s) h
  have records : logShown s b = rs.take 4 := congrArg Prod.fst window
  rw [records, window, List.length_take] at marks
  subst shown
  obtain ⟨items, more, gap⟩ := report_marks (by rw [units]; decide) marks
  refine ⟨items, more, gap, fun k r at_ => showsRecord_of_payload (report_payload s b) (by omega) (itemAt_log h (i := k.val) ?_)⟩
  rw [records, List.getElem?_take_of_lt k.isLt]
  exact at_

/-- LINES (R161). -/
theorem report_lines (h : b.subject.toNat = 2) {ls : List LineNo} (lines : ls = linesFrom s b.parameter) {x : List Octet}
    (shown : x = reportBulletin s (b.begun.whole s)) :
    octetAt x 4 = min 8 ls.length ∧ flagAt x 3 0 = decide (8 < ls.length) ∧ flagAt x 3 1 = false
      ∧ ∀ (k : Fin 8) (l : LineNo), ls[k.val]? = some l → ShowsLine s x (5 + 6 * k.val) l := by
  obtain ⟨units, marks⟩ := unitsOf_lines (s := s) h
  have listed : linesShown s b = ls.take 8 := by rw [lines]; rfl
  rw [listed, ← lines, List.length_take] at marks
  rw [listed, List.length_take] at units
  have marks' : octetAt x 4 = min 8 ls.length ∧ flagAt x 3 0 = decide (8 < ls.length) ∧ flagAt x 3 1 = false := by
    obtain none | some := Nat.eq_zero_or_pos (unitsOf s b)
    · obtain ⟨items, more, gap, -⟩ := report_empty none shown
      exact ⟨by omega, more.trans (decide_eq_false (by omega)).symm, gap⟩
    · exact shown ▸ report_marks some marks
  obtain ⟨items, more, gap⟩ := marks'
  subst shown
  refine ⟨items, more, gap, fun k l at_ => showsLine_of_payload (report_payload s b) (by omega) (itemAt_lines h (i := k.val) ?_)⟩
  rw [listed, List.getElem?_take_of_lt k.isLt]
  exact at_

/-- PEERS (R162). -/
theorem report_peers (h : b.subject.toNat = 3) {x : List Octet} (shown : x = reportBulletin s (b.begun.whole s)) :
    octetAt x 4 = 12 ∧ flagAt x 3 0 = false ∧ flagAt x 3 1 = false ∧ ∀ p, ShowsPeer s x (5 + 4 * p.val) p := by
  obtain ⟨units, marks⟩ := unitsOf_peers (s := s) h
  subst shown
  obtain ⟨items, more, gap⟩ := report_marks (by rw [units]; decide) marks
  exact ⟨items, more, gap, fun p => showsPeer_of_payload (report_payload s b) (by omega) (itemAt_peers h p)⟩

/-- STATION (R163). -/
theorem report_station (h : b.subject.toNat = 4) {x : List Octet} (shown : x = reportBulletin s (b.begun.whole s)) :
    octetAt x 4 = 1 ∧ flagAt x 3 0 = false ∧ flagAt x 3 1 = false ∧ ShowsStation s x := by
  obtain ⟨units, marks⟩ := unitsOf_station (s := s) h
  subst shown
  obtain ⟨items, more, gap⟩ := report_marks (by rw [units]; decide) marks
  exact ⟨items, more, gap, showsStation_of_payload (report_payload s b) (itemAt_station h)⟩

end

/-- Settles O52, by the items of a REPORT read at once, and by what a period reads (`step_of_building`, `read_in_parts`). -/
theorem reportContents : Obligations.ReportContents := by
  intro s loud room
  refine ⟨fun subject parameter n inquirer serving => ?_, fun b serving before => ⟨fun idle running =>
    step_of_building serving loud room before idle running, _, _, reports_of_room loud room b, reports_of_room loud room b.begun,
    read_in_parts before rfl rfl⟩⟩
  generalize building : ({ subject := subject, parameter := parameter, inquirer := inquirer, delay := n } : Build) = b at serving
  have parts : b.subject = subject ∧ b.parameter = parameter ∧ b.begun = b := by
    subst building
    exact ⟨rfl, rfl, rfl⟩
  obtain ⟨rfl, rfl, fresh⟩ := parts
  have run := exec_reportSubmission serving
  have sent := (submitReport_spec (reportBulletin s (b.whole s))
    { (s.took .reportSubmission).popped with service := none, inquiryDropped := false }).2 loud room
  have frame := submitReport_frame (reportBulletin s (b.whole s))
    { (s.took .reportSubmission).popped with service := none, inquiryDropped := false }
  generalize submitReport (reportBulletin s (b.whole s))
    { (s.took .reportSubmission).popped with service := none, inquiryDropped := false } = t at *
  obtain ⟨x, shown⟩ : ∃ x, reportBulletin s (b.whole s) = x := ⟨_, rfl⟩
  have whole : x = reportBulletin s (b.begun.whole s) := by rw [fresh, shown]
  rw [shown] at sent
  refine ⟨t, run, x, (congrArg Bus.reports sent.1 :), fun d rs log sound distance rest => ?_, fun ls lines listed => ?_,
    fun peers => ?_, fun station => ?_, fun unknown => report_empty (unitsOf_unknown unknown) whole, ?_⟩
  · exact report_log (by rw [log]; rfl) sound distance rest whole
  · exact report_lines (by rw [lines]; rfl) listed whole
  · exact report_peers (by rw [peers]; rfl) whole
  · exact report_station (by rw [station]; rfl) whole
  · exact (congrArg (fun u : State => { u with
      queue := s.queue, service := s.service, inquiryDropped := s.inquiryDropped, due := s.due }) frame :)

end Sys2Proof.Machine
end
